-- ==== Sys2Proof/Word.lean ====
section
/-! DEFINITION. The bit-vector types of the BCU's ports and of its bytes (spec/10_state.md R22 and R23;
spec/00_scope.md R9 and R10). -/

namespace Sys2Proof

/-- A value on one of the 64-bit ports `a`, `k` and `res` (R22, R23). -/
abbrev Word := BitVec 64

/-- A value on the 8-bit operation-select port `ctl` (R22, R60). -/
abbrev Select := BitVec 8

/-- One byte of an operand (R10), and one index of the lookup-table ROM (R42). -/
abbrev Byte := BitVec 8

end Sys2Proof
end

