-- ==== Sys2Proof/Config.lean ====
section
/-! DEFINITION. What is fixed when a BCU is built: the native width `NATIVE_W` (spec/00_scope.md R6,
spec/10_state.md R25) and the De Bruijn constant `DB_B` (spec/20_memory.md R44). The spec leaves both
values open, so both are constants with no body: no proof can see which value was built. -/

namespace Sys2Proof

/-- The legal values of `NATIVE_W`: 32 and 64, and no other (R6; 90_conflicts.md C7). -/
inductive NativeWidth where
  | w32
  | w64
deriving DecidableEq, Repr, Inhabited

/-- `NATIVE_W` as a number of bits. -/
def NativeWidth.bits : NativeWidth → Nat
  | .w32 => 32
  | .w64 => 64

/-- R44: `idx(p) = ((DB_B · 2^p) mod 2^64) >> 58`, the 6-bit De Bruijn index of bit position `p`.
That the index is the TOP six bits of the product is the spec's own choice (decision D11, item G2). -/
def deBruijnIndex (b : Word) (p : Nat) : BitVec 6 :=
  ((b * BitVec.ofNat 64 (2 ^ p)) >>> 58).setWidth 6

/-- R44: a legal value of `DB_B`, that is a 64-bit constant whose 64 indices `idx(0), …, idx(63)` are all
different. The default value only shows that a legal value exists: it is the spec's example
`0x03F79D71B4CA8B09` (from general knowledge, item G1). -/
structure DeBruijnConstant where
  val : Word := 0x03F79D71B4CA8B09#64
  distinct : ((List.range 64).map (deBruijnIndex val)).Nodup := by decide
deriving DecidableEq, Repr, Inhabited

/-- R6, R25: the native width this BCU was built with. OPEN in the spec (decision D8): either legal value. -/
opaque Config.nativeW : NativeWidth

/-- R26, R44: the De Bruijn constant this BCU was built with. OPEN in the spec (decision D11): any legal value. -/
opaque Config.dbB : DeBruijnConstant

end Sys2Proof
end

