-- ==== Sys2Proof/Syntax.lean ====
section
/-! DEFINITION. The instructions: one constructor for each row of spec/opcode_table.json, the 31 legal selects
(spec/30_encoding.md R64) and the eight native-width pseudo-instructions (R72). No constructor has an argument,
because an operation's operands are on the `a` and `k` ports and are no part of its encoding (R60). -/

namespace Sys2Proof

/-- R61: the eight operation families, in the order of their `FAM` codes. -/
inductive Family where
  | leadingZeros
  | trailingZeros
  | onesCount
  | rotateLeft
  | rotateRight
  | reverse
  | reverseBytes
  | len
deriving DecidableEq, Repr

/-- R7, R62: the four operand widths, in the order of their `WSZ` codes. -/
inductive Width where
  | w8
  | w16
  | w32
  | w64
deriving DecidableEq, Repr

/-- R65: why a `ctl` value selects no operation. -/
inductive Reject where
  /-- R63: `RSV = ctl[7:5]` is not 000. -/
  | reservedBits
  /-- R211: `FAM = 110` with `WSZ = 00`, the 8-bit byte reversal that the BCU does not expose. -/
  | reverseBytes8
deriving DecidableEq, Repr

/-- The instructions of the opcode table, in its order. -/
inductive Instr where
  /-- R103 -/
  | leadingZeros8
  /-- R104 -/
  | leadingZeros16
  /-- R105 -/
  | leadingZeros32
  /-- R106 -/
  | leadingZeros64
  /-- R124 -/
  | trailingZeros8
  /-- R125 -/
  | trailingZeros16
  /-- R126 -/
  | trailingZeros32
  /-- R127 -/
  | trailingZeros64
  /-- R143 -/
  | onesCount8
  /-- R144 -/
  | onesCount16
  /-- R145 -/
  | onesCount32
  /-- R146 -/
  | onesCount64
  /-- R164 -/
  | rotateLeft8
  /-- R165 -/
  | rotateLeft16
  /-- R166 -/
  | rotateLeft32
  /-- R167 -/
  | rotateLeft64
  /-- R169 -/
  | rotateRight8
  /-- R170 -/
  | rotateRight16
  /-- R171 -/
  | rotateRight32
  /-- R172 -/
  | rotateRight64
  /-- R192 -/
  | reverse8
  /-- R193 -/
  | reverse16
  /-- R194 -/
  | reverse32
  /-- R195 -/
  | reverse64
  /-- R213 -/
  | reverseBytes16
  /-- R214 -/
  | reverseBytes32
  /-- R215 -/
  | reverseBytes64
  /-- R233 -/
  | len8
  /-- R234 -/
  | len16
  /-- R235 -/
  | len32
  /-- R236 -/
  | len64
  /-- R107, native pseudo-instruction (R72) -/
  | leadingZeros
  /-- R128, native pseudo-instruction (R72) -/
  | trailingZeros
  /-- R147, native pseudo-instruction (R72) -/
  | onesCount
  /-- R168, native pseudo-instruction (R72) -/
  | rotateLeft
  /-- R173, native pseudo-instruction (R72) -/
  | rotateRight
  /-- R196, native pseudo-instruction (R72) -/
  | reverse
  /-- R216, native pseudo-instruction (R72) -/
  | reverseBytes
  /-- R237, native pseudo-instruction (R72) -/
  | len
deriving DecidableEq, Repr

end Sys2Proof
end

