-- ==== Sys2Proof/Machine/State.lean ====
section
/-! DEFINITION. The machine's state: the values the client drives on the input ports of one BCU (spec/10_state.md R22),
what the client sampled of their evaluation (R20), and the parameter the BCU was built with (R25). The BCU itself stores
nothing (R21). Its outputs `res`, `ill` and `uint_size` are functions of the inputs and of that parameter (R24, R29; 70_reset_and_hazards.md
R273), so no field holds one: they are `State.driven`, `State.ill` and `State.uintSize`. It has no registers, no program
counter, no flags and no memory (R27 to R32, R40), and its ROMs are constants (R26). -/

namespace Sys2Proof.Machine

/-- One pair of values of the two driven output ports (R23). -/
structure Outputs where
  res : BitVec 64
  ill : BitVec 1
deriving DecidableEq, Repr

/-- What stands at the ports of a BCU. -/
structure State where
  /-- R22: the operation select the client drives. -/
  ctl : BitVec 8
  /-- R22: the operand the client drives. -/
  a : BitVec 64
  /-- R22: the rotation amount the client drives, in two's complement. -/
  k : BitVec 64
  /-- R20: what the client sampled of the evaluation of exactly the inputs above, and `none` from when it drives inputs
  until it evaluates them. It is the client's value and no storage of the BCU (R27). R275 gives no result to a client
  that changes its inputs before it samples. That every drive drops an earlier sample too is the model's choice (DESIGN
  CHOICE, log entry 1). -/
  sampled : Option Outputs
  /-- R25: `NATIVE_W`, the parameter of the step relation. It is no state of the BCU: no step and no client writes it.
  The output `uint_size` (R24) is read off it. -/
  nativeW : NativeWidth
deriving DecidableEq, Repr

/-- R251: the BCU's one abnormal outcome. -/
inductive Fault where
  /-- Raised by a step whose `ctl` is one of the 225 illegal selects of R65, and carries that `ctl`. SAFE: the spec itself
  gives a model this fault, not a result (R82, R251), so nothing can be proved of what follows. -/
  | illegalSelect (ctl : BitVec 8)
deriving DecidableEq, Repr

/-- Why the model declines an instruction. -/
inductive Refusal where
  /-- Raised by an arm of `exec` whose instruction has no meaning yet; no arm does so. SAFE: no result is given. -/
  | notModelled (mnemonic : String)
deriving DecidableEq, Repr

/-- A BCU built with `NATIVE_W = n`, right after power-up (R270). The spec gives the inputs no value, for the client drives
them: all three are 0 here (DESIGN CHOICE, log entry 2, unsafe). Nothing has been evaluated, so nothing is sampled (R273). -/
def State.powerUp (n : NativeWidth) : State :=
  { ctl := 0x00#8, a := 0#64, k := 0#64, sampled := none, nativeW := n }

/-- The machine right after power-up, with the width it was built with (R270 to R273). The width is open (log entry 3). -/
def State.reset : State := State.powerUp Config.nativeW

end Sys2Proof.Machine
end

