-- ==== Sys2Proof/WellFormed.lean ====
section
/-! DEFINITION. Which instructions a `ctl` value can name (spec/30_encoding.md R62, R64, R72). -/

namespace Sys2Proof

/-- The one check on an instruction: it is one of the 31 selects of R64. A native pseudo-instruction fails it,
because no `WSZ` value selects the native width (R62): it is resolved to a select when the BCU is built (R72). -/
def Instr.wf : Instr → Bool
  | .leadingZeros8 => true
  | .leadingZeros16 => true
  | .leadingZeros32 => true
  | .leadingZeros64 => true
  | .trailingZeros8 => true
  | .trailingZeros16 => true
  | .trailingZeros32 => true
  | .trailingZeros64 => true
  | .onesCount8 => true
  | .onesCount16 => true
  | .onesCount32 => true
  | .onesCount64 => true
  | .rotateLeft8 => true
  | .rotateLeft16 => true
  | .rotateLeft32 => true
  | .rotateLeft64 => true
  | .rotateRight8 => true
  | .rotateRight16 => true
  | .rotateRight32 => true
  | .rotateRight64 => true
  | .reverse8 => true
  | .reverse16 => true
  | .reverse32 => true
  | .reverse64 => true
  | .reverseBytes16 => true
  | .reverseBytes32 => true
  | .reverseBytes64 => true
  | .len8 => true
  | .len16 => true
  | .len32 => true
  | .len64 => true
  | .leadingZeros => false
  | .trailingZeros => false
  | .onesCount => false
  | .rotateLeft => false
  | .rotateRight => false
  | .reverse => false
  | .reverseBytes => false
  | .len => false

end Sys2Proof
end

