-- ==== Sys2Proof/Decode.lean ====
section
/-! DEFINITION. The `CTL8` format (spec/30_encoding.md): the decoder, total on every `ctl` value and rejecting by
name, then the encoder, both written from the same code tables of R61 and R62; and the word interface the host
asks for. -/

namespace Sys2Proof

/-- R60: the `FAM` field, `ctl[2:0]`. -/
def ctlFam (ctl : Select) : BitVec 3 := ctl.extractLsb' 0 3

/-- R60: the `WSZ` field, `ctl[4:3]`. -/
def ctlWsz (ctl : Select) : BitVec 2 := ctl.extractLsb' 3 2

/-- R60: the `RSV` field, `ctl[7:5]`. -/
def ctlRsv (ctl : Select) : BitVec 3 := ctl.extractLsb' 5 3

/-- R61: the family a `FAM` code selects. -/
def familyOfCode (c : BitVec 3) : Family :=
  match c.toFin with
  | 0 => .leadingZeros
  | 1 => .trailingZeros
  | 2 => .onesCount
  | 3 => .rotateLeft
  | 4 => .rotateRight
  | 5 => .reverse
  | 6 => .reverseBytes
  | 7 => .len

/-- R61: the `FAM` code of a family. -/
def codeOfFamily : Family → BitVec 3
  | .leadingZeros => 0b000#3
  | .trailingZeros => 0b001#3
  | .onesCount => 0b010#3
  | .rotateLeft => 0b011#3
  | .rotateRight => 0b100#3
  | .reverse => 0b101#3
  | .reverseBytes => 0b110#3
  | .len => 0b111#3

/-- R62: the width a `WSZ` code selects. -/
def widthOfCode (c : BitVec 2) : Width :=
  match c.toFin with
  | 0 => .w8
  | 1 => .w16
  | 2 => .w32
  | 3 => .w64

/-- R62: the `WSZ` code of a width. -/
def codeOfWidth : Width → BitVec 2
  | .w8 => 0b00#2
  | .w16 => 0b01#2
  | .w32 => 0b10#2
  | .w64 => 0b11#2

/-- R62: W = 8 << WSZ. -/
def widthBits : Width → Nat
  | .w8 => 8
  | .w16 => 16
  | .w32 => 32
  | .w64 => 64

/-- R64: the opcode map. Its one empty cell is the 8-bit byte reversal (R211). -/
def selectOf : Family → Width → Except Reject Instr
  | .leadingZeros, .w8 => .ok .leadingZeros8
  | .leadingZeros, .w16 => .ok .leadingZeros16
  | .leadingZeros, .w32 => .ok .leadingZeros32
  | .leadingZeros, .w64 => .ok .leadingZeros64
  | .trailingZeros, .w8 => .ok .trailingZeros8
  | .trailingZeros, .w16 => .ok .trailingZeros16
  | .trailingZeros, .w32 => .ok .trailingZeros32
  | .trailingZeros, .w64 => .ok .trailingZeros64
  | .onesCount, .w8 => .ok .onesCount8
  | .onesCount, .w16 => .ok .onesCount16
  | .onesCount, .w32 => .ok .onesCount32
  | .onesCount, .w64 => .ok .onesCount64
  | .rotateLeft, .w8 => .ok .rotateLeft8
  | .rotateLeft, .w16 => .ok .rotateLeft16
  | .rotateLeft, .w32 => .ok .rotateLeft32
  | .rotateLeft, .w64 => .ok .rotateLeft64
  | .rotateRight, .w8 => .ok .rotateRight8
  | .rotateRight, .w16 => .ok .rotateRight16
  | .rotateRight, .w32 => .ok .rotateRight32
  | .rotateRight, .w64 => .ok .rotateRight64
  | .reverse, .w8 => .ok .reverse8
  | .reverse, .w16 => .ok .reverse16
  | .reverse, .w32 => .ok .reverse32
  | .reverse, .w64 => .ok .reverse64
  | .reverseBytes, .w8 => .error .reverseBytes8
  | .reverseBytes, .w16 => .ok .reverseBytes16
  | .reverseBytes, .w32 => .ok .reverseBytes32
  | .reverseBytes, .w64 => .ok .reverseBytes64
  | .len, .w8 => .ok .len8
  | .len, .w16 => .ok .len16
  | .len, .w32 => .ok .len32
  | .len, .w64 => .ok .len64

/-- R60 to R65: the decoder. Every one of the 256 `ctl` values is a select or is rejected by name (R66).
`NATIVE_W` plays no part in it (R70). -/
def decode (ctl : Select) : Except Reject Instr :=
  if ctlRsv ctl = 0b000#3 then selectOf (familyOfCode (ctlFam ctl)) (widthOfCode (ctlWsz ctl))
  else .error .reservedBits

/-- The family of an instruction (R64, R72). -/
def instrFamily : Instr → Family
  | .leadingZeros8 => .leadingZeros
  | .leadingZeros16 => .leadingZeros
  | .leadingZeros32 => .leadingZeros
  | .leadingZeros64 => .leadingZeros
  | .trailingZeros8 => .trailingZeros
  | .trailingZeros16 => .trailingZeros
  | .trailingZeros32 => .trailingZeros
  | .trailingZeros64 => .trailingZeros
  | .onesCount8 => .onesCount
  | .onesCount16 => .onesCount
  | .onesCount32 => .onesCount
  | .onesCount64 => .onesCount
  | .rotateLeft8 => .rotateLeft
  | .rotateLeft16 => .rotateLeft
  | .rotateLeft32 => .rotateLeft
  | .rotateLeft64 => .rotateLeft
  | .rotateRight8 => .rotateRight
  | .rotateRight16 => .rotateRight
  | .rotateRight32 => .rotateRight
  | .rotateRight64 => .rotateRight
  | .reverse8 => .reverse
  | .reverse16 => .reverse
  | .reverse32 => .reverse
  | .reverse64 => .reverse
  | .reverseBytes16 => .reverseBytes
  | .reverseBytes32 => .reverseBytes
  | .reverseBytes64 => .reverseBytes
  | .len8 => .len
  | .len16 => .len
  | .len32 => .len
  | .len64 => .len
  | .leadingZeros => .leadingZeros
  | .trailingZeros => .trailingZeros
  | .onesCount => .onesCount
  | .rotateLeft => .rotateLeft
  | .rotateRight => .rotateRight
  | .reverse => .reverse
  | .reverseBytes => .reverseBytes
  | .len => .len

/-- The width `NATIVE_W` stands for (R6, R72). -/
def nativeWidth : NativeWidth → Width
  | .w32 => .w32
  | .w64 => .w64

/-- The width of an instruction on a BCU built with `NATIVE_W = n` (R64, R72). -/
def instrWidth (n : NativeWidth) : Instr → Width
  | .leadingZeros8 => .w8
  | .leadingZeros16 => .w16
  | .leadingZeros32 => .w32
  | .leadingZeros64 => .w64
  | .trailingZeros8 => .w8
  | .trailingZeros16 => .w16
  | .trailingZeros32 => .w32
  | .trailingZeros64 => .w64
  | .onesCount8 => .w8
  | .onesCount16 => .w16
  | .onesCount32 => .w32
  | .onesCount64 => .w64
  | .rotateLeft8 => .w8
  | .rotateLeft16 => .w16
  | .rotateLeft32 => .w32
  | .rotateLeft64 => .w64
  | .rotateRight8 => .w8
  | .rotateRight16 => .w16
  | .rotateRight32 => .w32
  | .rotateRight64 => .w64
  | .reverse8 => .w8
  | .reverse16 => .w16
  | .reverse32 => .w32
  | .reverse64 => .w64
  | .reverseBytes16 => .w16
  | .reverseBytes32 => .w32
  | .reverseBytes64 => .w64
  | .len8 => .w8
  | .len16 => .w16
  | .len32 => .w32
  | .len64 => .w64
  | .leadingZeros => nativeWidth n
  | .trailingZeros => nativeWidth n
  | .onesCount => nativeWidth n
  | .rotateLeft => nativeWidth n
  | .rotateRight => nativeWidth n
  | .reverse => nativeWidth n
  | .reverseBytes => nativeWidth n
  | .len => nativeWidth n

/-- R60: the encoder, `RSV = 000` above `WSZ` above `FAM`. A native pseudo-instruction has the `ctl` value of the
select it expands to on a BCU built with `NATIVE_W = n` (R72, R73). -/
def encode (n : NativeWidth) (i : Instr) : Select :=
  (0b000#3 ++ codeOfWidth (instrWidth n i) ++ codeOfFamily (instrFamily i) : BitVec 8)

/-- R72: the build-time expansion of the native pseudo-instructions. A select stands for itself. -/
def resolve (n : NativeWidth) (i : Instr) : Instr :=
  match n, i with
  | .w32, .leadingZeros => .leadingZeros32
  | .w64, .leadingZeros => .leadingZeros64
  | .w32, .trailingZeros => .trailingZeros32
  | .w64, .trailingZeros => .trailingZeros64
  | .w32, .onesCount => .onesCount32
  | .w64, .onesCount => .onesCount64
  | .w32, .rotateLeft => .rotateLeft32
  | .w64, .rotateLeft => .rotateLeft64
  | .w32, .rotateRight => .rotateRight32
  | .w64, .rotateRight => .rotateRight64
  | .w32, .reverse => .reverse32
  | .w64, .reverse => .reverse64
  | .w32, .reverseBytes => .reverseBytes32
  | .w64, .reverseBytes => .reverseBytes64
  | .w32, .len => .len32
  | .w64, .len => .len64
  | _, .leadingZeros8 => .leadingZeros8
  | _, .leadingZeros16 => .leadingZeros16
  | _, .leadingZeros32 => .leadingZeros32
  | _, .leadingZeros64 => .leadingZeros64
  | _, .trailingZeros8 => .trailingZeros8
  | _, .trailingZeros16 => .trailingZeros16
  | _, .trailingZeros32 => .trailingZeros32
  | _, .trailingZeros64 => .trailingZeros64
  | _, .onesCount8 => .onesCount8
  | _, .onesCount16 => .onesCount16
  | _, .onesCount32 => .onesCount32
  | _, .onesCount64 => .onesCount64
  | _, .rotateLeft8 => .rotateLeft8
  | _, .rotateLeft16 => .rotateLeft16
  | _, .rotateLeft32 => .rotateLeft32
  | _, .rotateLeft64 => .rotateLeft64
  | _, .rotateRight8 => .rotateRight8
  | _, .rotateRight16 => .rotateRight16
  | _, .rotateRight32 => .rotateRight32
  | _, .rotateRight64 => .rotateRight64
  | _, .reverse8 => .reverse8
  | _, .reverse16 => .reverse16
  | _, .reverse32 => .reverse32
  | _, .reverse64 => .reverse64
  | _, .reverseBytes16 => .reverseBytes16
  | _, .reverseBytes32 => .reverseBytes32
  | _, .reverseBytes64 => .reverseBytes64
  | _, .len8 => .len8
  | _, .len16 => .len16
  | _, .len32 => .len32
  | _, .len64 => .len64

/-- The `ctl` value of a table word: bit 0 of the word is `ctl[0]`, and the bits at and above `nbits` are 0. -/
def tableSelect (nbits w : Nat) : Select := BitVec.ofNat 8 (w % 2 ^ nbits)

/-- What the decoder reads from a word of spec/opcode_table.json. The BCU has no select longer than 8 bits (R60, R70). -/
def decodeTableWord (nbits w : Nat) : Option Instr :=
  if nbits ≤ 8 then (decode (tableSelect nbits w)).toOption else none

end Sys2Proof
end

