-- ==== Sys2Proof/Machine/Flags.lean ====
section
/-! DEFINITION. The BCU has no flags and no condition codes (spec/10_state.md R29). Its one status output is `ill`, a
function of the current `ctl` alone. -/

namespace Sys2Proof.Machine

/-- R65: `ctl[7:5] ≠ 000`, or `ctl[2:0] = 110` and `ctl[4:3] = 00`. -/
def isIllegal (ctl : Select) : Bool :=
  ctlRsv ctl != 0b000#3 || (ctlFam ctl == 0b110#3 && ctlWsz ctl == 0b00#2)

/-- R23, R251: the `ill` output, 1 for an illegal select and otherwise 0. -/
def illOf (ctl : Select) : BitVec 1 := if isIllegal ctl then 1#1 else 0#1

end Sys2Proof.Machine
end

