-- ==== Sys2Proof/Machine/Operands.lean ====
section
/-! DEFINITION. Operands: bits and bytes of a value (spec/00_scope.md R8, R10, §4.1), the narrowing adapter
(spec/30_encoding.md R67, spec/40_adapters.md R83), the rotation amount (R68) and the widening adapters (R69, R84). -/

namespace Sys2Proof.Machine

/-- The `w`-bit value whose bit `i` is `f i`, bit 0 the least significant (R8). -/
def ofBits : (w : Nat) → (Nat → Bool) → BitVec w
  | 0, _ => 0#0
  | n + 1, f => BitVec.cons (f n) (ofBits n f)

/-- R10: byte `j` of a value, `v[8j+7:8j]`; byte 0 is the least significant. -/
def byteAt {w : Nat} (x : BitVec w) (j : Nat) : Byte := x.extractLsb' (8 * j) 8

/-- The largest `i < n` with `x[i] = 1`, and 0 if there is none. -/
def topSetBelow {w : Nat} (x : BitVec w) : Nat → Nat
  | 0 => 0
  | n + 1 => if x.getLsbD n then n else topSetBelow x n

/-- 00_scope.md §4.1: `msb(v)`, the largest `i` with `v[i] = 1`, for `v ≠ 0`. -/
def msbIndex {w : Nat} (x : BitVec w) : Nat := topSetBelow x w

/-- The smallest `i` with `x[i] = 1` among the `n` positions from `start` on, and `start + n` if there is none. -/
def lowSetFrom {w : Nat} (x : BitVec w) (start : Nat) : Nat → Nat
  | 0 => start
  | n + 1 => if x.getLsbD start then start else lowSetFrom x (start + 1) n

/-- R120: `min { i : 0 <= i < W, x[i] == 1 }`, for `x ≠ 0`. -/
def lsbIndex {w : Nat} (x : BitVec w) : Nat := lowSetFrom x 0 w

/-- `Σ x[i]` for `i` from 0 to `n - 1`. -/
def onesBelow {w : Nat} (x : BitVec w) : Nat → Nat
  | 0 => 0
  | n + 1 => onesBelow x n + (x.getLsbD n).toNat

/-- The sum of `f` over the `n` low bytes of a value. -/
def sumBytes {w : Nat} (f : Byte → Nat) (x : BitVec w) : Nat → Nat
  | 0 => 0
  | n + 1 => sumBytes f x n + f (byteAt x n)

/-- The value with each byte replaced by its image under `f`, the byte order kept. -/
def mapBytes {w : Nat} (f : Byte → Byte) (x : BitVec w) : BitVec w :=
  ofBits w (fun i => (f (byteAt x (i / 8))).getLsbD (i % 8))

/-- `zext_64` (00_scope.md §4.1). -/
def zext64 {w : Nat} (x : BitVec w) : Word := x.setWidth 64

/-- R67, R83: the operand of width `w`, `x = a[w-1:0]`; the bits `a[63:w]` are ignored. -/
def operand (w : Nat) (s : State) : BitVec w := s.a.setWidth w

/-- R68: the rotation amount, `kint = sint_64(k)`. -/
def amount (s : State) : Int := s.k.toInt

/-- R69: a count on the result port, `zext_64(c[6:0])`. -/
def widenCount (c : Nat) : Word := zext64 (BitVec.ofNat 7 c)

/-- R69, R84: a `w`-bit value on the result port, `zext_64(v)`. -/
def widenValue {w : Nat} (v : BitVec w) : Word := zext64 v

end Sys2Proof.Machine
end

