-- ==== Sys2Proof/Machine/Ops.lean ====
section
/-! DEFINITION. The named operations on the ports: what the client does to the inputs, what it samples of an
evaluation, the outputs that need no evaluation, and the one abnormal outcome. The BCU takes no trap (spec/60_exceptions.md R254): an illegal select saves
nothing and transfers control nowhere, and there is no trap return (R255). -/

namespace Sys2Proof.Machine

/-- One set of input values for the ports (R22). -/
structure Inputs where
  ctl : BitVec 8
  a : BitVec 64
  k : BitVec 64
deriving DecidableEq, Repr

/-- The inputs now on the ports. -/
def State.inputs (s : State) : Inputs := { ctl := s.ctl, a := s.a, k := s.k }

/-- R20, R22: the client drives the three inputs. Whatever it sampled before is no result of these, so nothing is sampled
until they are evaluated (DESIGN CHOICE, log entry 1; R275 for inputs that no sample was taken of). -/
def State.present (p : Inputs) (s : State) : State :=
  { s with ctl := p.ctl, a := p.a, k := p.k, sampled := none }

/-- R20, R275: the client samples the outputs of the evaluation of the inputs it holds on the ports. -/
def State.sample (o : Outputs) (s : State) : State := { s with sampled := some o }

/-- R23, R29: the output `ill`, a function of the current `ctl` and of nothing else. -/
def State.ill (s : State) : BitVec 1 := illOf s.ctl

/-- R23, R24: the 7-bit output `uint_size`, the constant `NATIVE_W`. -/
def State.uintSize (s : State) : BitVec 7 := BitVec.ofNat 7 s.nativeW.bits

/-- R69, R81: a legal select of a counting family drives its count, with `ill = 0`, and the client samples
both. -/
def driveCount (c : Nat) (s : State) : Host.Outcome State Fault Refusal :=
  .next (s.sample { res := widenCount c, ill := 0#1 })

/-- R69, R81: a legal select of a value family drives its value, with `ill = 0`, and the client samples
both. -/
def driveValue {w : Nat} (v : BitVec w) (s : State) : Host.Outcome State Fault Refusal :=
  .next (s.sample { res := widenValue v, ill := 0#1 })

/-- R82, R251: the outcome of an evaluation whose `ctl` is illegal. The BCU drives `res = 0` and `ill = 1` (see `outputs`
in Machine/Eval.lean), and a model records the fault, not a result. -/
def raiseIllegalSelect (s : State) : Host.Outcome State Fault Refusal := .fault (.illegalSelect s.ctl)

end Sys2Proof.Machine
end

