-- ==== Sys2Proof/Machine/LeadingZeros.lean ====
section
/-! DEFINITION. The LeadingZeros family (spec/41_leading_zeros.md): the reference count, the structures the leading-zero
detector may have, and the meanings. A meaning uses the reference count (spec/40_adapters.md R94). -/

namespace Sys2Proof.Machine

/-- R100: `LZ_W`. -/
def lz {w : Nat} (x : BitVec w) : Nat := if x = 0#w then w else w - 1 - msbIndex x

/-- R101: the byte scan, with `r` bytes still to be examined, from byte `r - 1` down. -/
def lzScanFrom {w : Nat} (x : BitVec w) : Nat → Nat
  | 0 => w
  | r + 1 =>
    if byteAt x r ≠ 0#8 then 8 * (w / 8 - 1 - r) + (lutLz8 (byteAt x r)).toNat else lzScanFrom x r

/-- R101: `LZ_W` by the byte scan over the lookup-table ROM, from the most-significant byte. -/
def lzScan {w : Nat} (x : BitVec w) : Nat := lzScanFrom x (w / 8)

/-- R102: a 64-bit detector made of two 32-bit ones, the high half examined first. -/
def lzSplit (x : BitVec 64) : Nat :=
  if x.extractLsb' 32 32 ≠ 0#32 then lz (x.extractLsb' 32 32) else 32 + lz (x.extractLsb' 0 32)

/-- R86: `LZ_W` from the shared 64-bit engine. -/
def lzShared {w : Nat} (x : BitVec w) : Nat := lz (zext64 x) - (64 - w)

/-- R103 -/
def execLeadingZeros8 (s : State) : Host.Outcome State Fault Refusal := driveCount (lz (operand 8 s)) s

/-- R104 -/
def execLeadingZeros16 (s : State) : Host.Outcome State Fault Refusal := driveCount (lz (operand 16 s)) s

/-- R105 -/
def execLeadingZeros32 (s : State) : Host.Outcome State Fault Refusal := driveCount (lz (operand 32 s)) s

/-- R106 -/
def execLeadingZeros64 (s : State) : Host.Outcome State Fault Refusal := driveCount (lz (operand 64 s)) s

/-- R107: `LZ_NATIVE_W(a[NATIVE_W-1:0])`. -/
def execLeadingZeros (s : State) : Host.Outcome State Fault Refusal := driveCount (lz (operand s.nativeW.bits s)) s

end Sys2Proof.Machine
end

