-- ==== Sys2Proof/Machine/Len.lean ====
section
/-! DEFINITION. The Len family (spec/47_len.md): the reference bit length, its sharing of the leading-zero detector, and
the meanings. A meaning uses the reference length (spec/40_adapters.md R94). -/

namespace Sys2Proof.Machine

/-- R230: `LEN_W`; its value 0 at `x = 0` is given directly. -/
def len {w : Nat} (x : BitVec w) : Nat := if x = 0#w then 0 else msbIndex x + 1

/-- R232: `LEN_W = W - LZ_W`, with `LZ_W` by the byte scan of the leading-zero detector. -/
def lenByScan {w : Nat} (x : BitVec w) : Nat := w - lzScan x

/-- R86, R232: `LEN_W` from the shared 64-bit engine. -/
def lenShared {w : Nat} (x : BitVec w) : Nat := len (zext64 x)

/-- R233 -/
def execLen8 (s : State) : Host.Outcome State Fault Refusal := driveCount (len (operand 8 s)) s

/-- R234 -/
def execLen16 (s : State) : Host.Outcome State Fault Refusal := driveCount (len (operand 16 s)) s

/-- R235 -/
def execLen32 (s : State) : Host.Outcome State Fault Refusal := driveCount (len (operand 32 s)) s

/-- R236 -/
def execLen64 (s : State) : Host.Outcome State Fault Refusal := driveCount (len (operand 64 s)) s

/-- R237: `LEN_NATIVE_W(a[NATIVE_W-1:0])`. -/
def execLen (s : State) : Host.Outcome State Fault Refusal := driveCount (len (operand s.nativeW.bits s)) s

end Sys2Proof.Machine
end

