-- ==== Sys2Proof/Machine/OnesCount.lean ====
section
/-! DEFINITION. The OnesCount family (spec/43_ones_count.md): the reference count, the structures the population-count
circuit may have, and the meanings. A meaning uses the reference count (spec/40_adapters.md R94). -/

namespace Sys2Proof.Machine

/-- R140: `POP_W`, the sum of the bits. -/
def pop {w : Nat} (x : BitVec w) : Nat := onesBelow x w

/-- R140: one pass of the second reference definition, `x & ((x - 1) mod 2^W)`. -/
def clearLowest {w : Nat} (x : BitVec w) : BitVec w := x &&& (x - 1#w)

/-- R140: the second reference definition's loop, cut off after `fuel` passes. -/
def popLoop {w : Nat} (x : BitVec w) : Nat → Nat
  | 0 => 0
  | fuel + 1 => if x = 0#w then 0 else popLoop (clearLowest x) fuel + 1

/-- R140: the value `x` has after `n` passes of the loop. -/
def clearLowestTimes {w : Nat} (x : BitVec w) : Nat → BitVec w
  | 0 => x
  | n + 1 => clearLowestTimes (clearLowest x) n

/-- R141: `POP_W` by per-byte table lookup. -/
def popTable {w : Nat} (x : BitVec w) : Nat := sumBytes (fun b => (lutPop8 b).toNat) x (w / 8)

/-- R142: after step s1, each 2-bit field holds the count of its bits (from general knowledge, item G3). -/
def swarPairs {w : Nat} (x : BitVec w) : BitVec w :=
  x - ((x >>> 1) &&& (0x5555555555555555#64).setWidth w)

/-- R142: after step s2, each 4-bit field holds the count of its bits. -/
def swarNibbles {w : Nat} (s1 : BitVec w) : BitVec w :=
  (s1 &&& (0x3333333333333333#64).setWidth w) + ((s1 >>> 2) &&& (0x3333333333333333#64).setWidth w)

/-- R142: after step s3, each byte holds the count of its bits. -/
def swarBytes {w : Nat} (s2 : BitVec w) : BitVec w :=
  (s2 + (s2 >>> 4)) &&& (0x0F0F0F0F0F0F0F0F#64).setWidth w

/-- R142: `POP_W` by the SWAR reduction. -/
def popSwar {w : Nat} (x : BitVec w) : Nat :=
  sumBytes (fun b => b.toNat) (swarBytes (swarNibbles (swarPairs x))) (w / 8)

/-- R86: `POP_W` from the shared 64-bit engine. -/
def popShared {w : Nat} (x : BitVec w) : Nat := pop (zext64 x)

/-- R143 -/
def execOnesCount8 (s : State) : Host.Outcome State Fault Refusal := driveCount (pop (operand 8 s)) s

/-- R144 -/
def execOnesCount16 (s : State) : Host.Outcome State Fault Refusal := driveCount (pop (operand 16 s)) s

/-- R145 -/
def execOnesCount32 (s : State) : Host.Outcome State Fault Refusal := driveCount (pop (operand 32 s)) s

/-- R146 -/
def execOnesCount64 (s : State) : Host.Outcome State Fault Refusal := driveCount (pop (operand 64 s)) s

/-- R147: `POP_NATIVE_W(a[NATIVE_W-1:0])`. -/
def execOnesCount (s : State) : Host.Outcome State Fault Refusal := driveCount (pop (operand s.nativeW.bits s)) s

end Sys2Proof.Machine
end

