-- ==== Sys2Proof/Machine/ReverseBytes.lean ====
section
/-! DEFINITION. The ReverseBytes family (spec/46_reverse_bytes.md): the reference byte reversal, the mask-and-shift
networks the byte reverser may use, and the meanings. There is no 8-bit byte reversal (R211). -/

namespace Sys2Proof.Machine

/-- R210: `REVB_W`: byte `j` of the result is byte `W/8 - 1 - j` of `x`, the bit order inside a byte kept. -/
def revb {w : Nat} (x : BitVec w) : BitVec w :=
  ofBits w (fun i => x.getLsbD (8 * (w / 8 - 1 - i / 8) + i % 8))

/-- R212: the network at W = 16. -/
def revbNet16 (x : BitVec 16) : BitVec 16 := (x >>> 8) ||| (x <<< 8)

/-- R212: the network at W = 32. -/
def revbNet32 (x : BitVec 32) : BitVec 32 :=
  let t := ((x >>> 8) &&& 0x00FF00FF#32) ||| ((x &&& 0x00FF00FF#32) <<< 8)
  (t >>> 16) ||| (t <<< 16)

/-- R212: the network at W = 64. -/
def revbNet64 (x : BitVec 64) : BitVec 64 :=
  let t := ((x >>> 8) &&& 0x00FF00FF00FF00FF#64) ||| ((x &&& 0x00FF00FF00FF00FF#64) <<< 8)
  let u := ((t >>> 16) &&& 0x0000FFFF0000FFFF#64) ||| ((t &&& 0x0000FFFF0000FFFF#64) <<< 16)
  (u >>> 32) ||| (u <<< 32)

/-- R86: `REVB_W` from the shared 64-bit engine. -/
def revbShared {w : Nat} (x : BitVec w) : BitVec w := (revb (zext64 x) >>> (64 - w)).setWidth w

/-- R213 -/
def execReverseBytes16 (s : State) : Host.Outcome State Fault Refusal := driveValue (revb (operand 16 s)) s

/-- R214 -/
def execReverseBytes32 (s : State) : Host.Outcome State Fault Refusal := driveValue (revb (operand 32 s)) s

/-- R215 -/
def execReverseBytes64 (s : State) : Host.Outcome State Fault Refusal := driveValue (revb (operand 64 s)) s

/-- R216: `REVB_NATIVE_W(a[NATIVE_W-1:0])`. -/
def execReverseBytes (s : State) : Host.Outcome State Fault Refusal :=
  driveValue (revb (operand s.nativeW.bits s)) s

end Sys2Proof.Machine
end

