-- ==== Sys2Proof/Machine/Reverse.lean ====
section
/-! DEFINITION. The Reverse family (spec/45_reverse.md): the reference bit reversal, its composition from the lookup-table
ROM and the byte reverser in either order, and the meanings. A meaning uses the reference reversal
(spec/40_adapters.md R94). -/

namespace Sys2Proof.Machine

/-- R190: `REV_W(x)[i] = x[W-1-i]`. -/
def rev {w : Nat} (x : BitVec w) : BitVec w := ofBits w (fun i => x.getLsbD (w - 1 - i))

/-- R191: each byte reversed in place through the ROM, then the byte order reversed (the table step alone at W = 8). -/
def revTableThenSwap {w : Nat} (x : BitVec w) : BitVec w :=
  if w = 8 then mapBytes lutRev8 x else revb (mapBytes lutRev8 x)

/-- R191: the other order of the two steps. -/
def revSwapThenTable {w : Nat} (x : BitVec w) : BitVec w :=
  if w = 8 then mapBytes lutRev8 x else mapBytes lutRev8 (revb x)

/-- R86: `REV_W` from the shared 64-bit engine. -/
def revShared {w : Nat} (x : BitVec w) : BitVec w := (rev (zext64 x) >>> (64 - w)).setWidth w

/-- R192 -/
def execReverse8 (s : State) : Host.Outcome State Fault Refusal := driveValue (rev (operand 8 s)) s

/-- R193 -/
def execReverse16 (s : State) : Host.Outcome State Fault Refusal := driveValue (rev (operand 16 s)) s

/-- R194 -/
def execReverse32 (s : State) : Host.Outcome State Fault Refusal := driveValue (rev (operand 32 s)) s

/-- R195 -/
def execReverse64 (s : State) : Host.Outcome State Fault Refusal := driveValue (rev (operand 64 s)) s

/-- R196: `REV_NATIVE_W(a[NATIVE_W-1:0])`. -/
def execReverse (s : State) : Host.Outcome State Fault Refusal := driveValue (rev (operand s.nativeW.bits s)) s

end Sys2Proof.Machine
end

