-- ==== Sys2Proof/Machine/Rotate.lean ====
section
/-! DEFINITION. The RotateLeft and RotateRight families (spec/44_rotate.md): the reference rotations and the meanings.
The amount is an integer: its negation is exact and its reduction is Euclidean (spec/00_scope.md R11). -/

namespace Sys2Proof.Machine

/-- R160: `s = kint mod W`, in `[0, W)`. -/
def rotateAmount (w : Nat) (kint : Int) : Nat := (kint % (w : Int)).toNat

/-- R161: `ROL_W`, with the zero rotation special-cased so that no shift by W is computed. -/
def rol {w : Nat} (x : BitVec w) (kint : Int) : BitVec w :=
  if rotateAmount w kint = 0 then x
  else (x <<< rotateAmount w kint) ||| (x >>> (w - rotateAmount w kint))

/-- R162: `ROR_W(x, kint) = ROL_W(x, -kint)`. -/
def ror {w : Nat} (x : BitVec w) (kint : Int) : BitVec w := rol x (-kint)

/-- R164 -/
def execRotateLeft8 (s : State) : Host.Outcome State Fault Refusal := driveValue (rol (operand 8 s) (amount s)) s

/-- R165 -/
def execRotateLeft16 (s : State) : Host.Outcome State Fault Refusal := driveValue (rol (operand 16 s) (amount s)) s

/-- R166 -/
def execRotateLeft32 (s : State) : Host.Outcome State Fault Refusal := driveValue (rol (operand 32 s) (amount s)) s

/-- R167 -/
def execRotateLeft64 (s : State) : Host.Outcome State Fault Refusal := driveValue (rol (operand 64 s) (amount s)) s

/-- R168: `ROL_NATIVE_W(a[NATIVE_W-1:0], sint_64(k))`. -/
def execRotateLeft (s : State) : Host.Outcome State Fault Refusal :=
  driveValue (rol (operand s.nativeW.bits s) (amount s)) s

/-- R169 -/
def execRotateRight8 (s : State) : Host.Outcome State Fault Refusal := driveValue (ror (operand 8 s) (amount s)) s

/-- R170 -/
def execRotateRight16 (s : State) : Host.Outcome State Fault Refusal := driveValue (ror (operand 16 s) (amount s)) s

/-- R171 -/
def execRotateRight32 (s : State) : Host.Outcome State Fault Refusal := driveValue (ror (operand 32 s) (amount s)) s

/-- R172 -/
def execRotateRight64 (s : State) : Host.Outcome State Fault Refusal := driveValue (ror (operand 64 s) (amount s)) s

/-- R173: `ROR_NATIVE_W(a[NATIVE_W-1:0], sint_64(k))`. -/
def execRotateRight (s : State) : Host.Outcome State Fault Refusal :=
  driveValue (ror (operand s.nativeW.bits s) (amount s)) s

end Sys2Proof.Machine
end

