-- ==== Sys2Proof/Machine/DeBruijn.lean ====
section
/-! DEFINITION. The De Bruijn position ROM and the De Bruijn index lookup (spec/20_memory.md R45, R46), for any legal
`DB_B`. The BCU's own constant is `Config.dbB`. -/

namespace Sys2Proof.Machine

/-- R45: the 64 six-bit entries of `DBPOS`, given by `DBPOS[idx(p)] = p`. -/
def dbPosTable (b : DeBruijnConstant) : List (BitVec 6) :=
  (List.range 64).map fun i =>
    BitVec.ofNat 6 (((List.range 64).find? fun p => deBruijnIndex b.val p == BitVec.ofNat 6 i).getD 0)

/-- R45: a read of the ROM `DBPOS`. -/
def dbPos (b : DeBruijnConstant) (i : BitVec 6) : BitVec 6 := (dbPosTable b).getD i.toNat 0#6

/-- R46: `dbindex(y) = DBPOS[((y · DB_B) mod 2^64) >> 58]`. -/
def dbIndexOf (b : DeBruijnConstant) (y : Word) : BitVec 6 := dbPos b (((y * b.val) >>> 58).setWidth 6)

/-- R46: the index lookup of this BCU, with the constant it was built with (log entry 4). -/
def dbIndex (y : Word) : BitVec 6 := dbIndexOf Config.dbB y

/-- R123: `z & ((0 - z) mod 2^64)`, the lowest set bit of `z` alone (from general knowledge, item G4). -/
def isolateLowest (z : Word) : Word := z &&& (0#64 - z)

end Sys2Proof.Machine
end

