-- ==== Sys2Proof/Machine/TrailingZeros.lean ====
section
/-! DEFINITION. The TrailingZeros family (spec/42_trailing_zeros.md): the reference count, the structures the
trailing-zero detector may have, and the meanings. A meaning uses the reference count (spec/40_adapters.md R94). -/

namespace Sys2Proof.Machine

/-- R120: `TZ_W`. -/
def tz {w : Nat} (x : BitVec w) : Nat := if x = 0#w then w else lsbIndex x

/-- R121: the byte scan from byte `t` up, with `r` bytes still to be examined. -/
def tzScanFrom {w : Nat} (x : BitVec w) (t : Nat) : Nat → Nat
  | 0 => w
  | r + 1 => if byteAt x t ≠ 0#8 then 8 * t + (lutTz8 (byteAt x t)).toNat else tzScanFrom x (t + 1) r

/-- R121: `TZ_W` by the byte scan over the lookup-table ROM, from the least-significant byte. -/
def tzScan {w : Nat} (x : BitVec w) : Nat := tzScanFrom x 0 (w / 8)

/-- R122: a 64-bit detector made of two 32-bit ones, the low half examined first. -/
def tzSplit (x : BitVec 64) : Nat :=
  if x.extractLsb' 0 32 ≠ 0#32 then tz (x.extractLsb' 0 32) else 32 + tz (x.extractLsb' 32 32)

/-- R123: `TZ_W` by the De Bruijn index lookup, with a zero operand special-cased before it. -/
def tzDeBruijn {w : Nat} (b : DeBruijnConstant) (x : BitVec w) : Nat :=
  if x = 0#w then w else (dbIndexOf b (isolateLowest (zext64 x))).toNat

/-- R123: the De Bruijn path of this BCU, with the constant it was built with (log entry 4). -/
def tzLookup {w : Nat} (x : BitVec w) : Nat :=
  if x = 0#w then w else (dbIndex (isolateLowest (zext64 x))).toNat

/-- R86: `TZ_W` from the shared 64-bit engine. -/
def tzShared {w : Nat} (x : BitVec w) : Nat := min (tz (zext64 x)) w

/-- R124 -/
def execTrailingZeros8 (s : State) : Host.Outcome State Fault Refusal := driveCount (tz (operand 8 s)) s

/-- R125 -/
def execTrailingZeros16 (s : State) : Host.Outcome State Fault Refusal := driveCount (tz (operand 16 s)) s

/-- R126 -/
def execTrailingZeros32 (s : State) : Host.Outcome State Fault Refusal := driveCount (tz (operand 32 s)) s

/-- R127 -/
def execTrailingZeros64 (s : State) : Host.Outcome State Fault Refusal := driveCount (tz (operand 64 s)) s

/-- R128: `TZ_NATIVE_W(a[NATIVE_W-1:0])`. -/
def execTrailingZeros (s : State) : Host.Outcome State Fault Refusal := driveCount (tz (operand s.nativeW.bits s)) s

end Sys2Proof.Machine
end

