-- ==== Sys2Proof/Machine/Dispatch.lean ====
section
/-! DEFINITION. One arm for each instruction of the opcode table. -/

namespace Sys2Proof.Machine

/-- The meaning of every instruction: one evaluation of the BCU on the values its ports hold (spec/40_adapters.md R80). -/
def exec (i : Instr) (s : State) : Host.Outcome State Fault Refusal :=
  match i with
  | .leadingZeros8 => Sys2Proof.Machine.execLeadingZeros8 s
  | .leadingZeros16 => Sys2Proof.Machine.execLeadingZeros16 s
  | .leadingZeros32 => Sys2Proof.Machine.execLeadingZeros32 s
  | .leadingZeros64 => Sys2Proof.Machine.execLeadingZeros64 s
  | .trailingZeros8 => Sys2Proof.Machine.execTrailingZeros8 s
  | .trailingZeros16 => Sys2Proof.Machine.execTrailingZeros16 s
  | .trailingZeros32 => Sys2Proof.Machine.execTrailingZeros32 s
  | .trailingZeros64 => Sys2Proof.Machine.execTrailingZeros64 s
  | .onesCount8 => Sys2Proof.Machine.execOnesCount8 s
  | .onesCount16 => Sys2Proof.Machine.execOnesCount16 s
  | .onesCount32 => Sys2Proof.Machine.execOnesCount32 s
  | .onesCount64 => Sys2Proof.Machine.execOnesCount64 s
  | .rotateLeft8 => Sys2Proof.Machine.execRotateLeft8 s
  | .rotateLeft16 => Sys2Proof.Machine.execRotateLeft16 s
  | .rotateLeft32 => Sys2Proof.Machine.execRotateLeft32 s
  | .rotateLeft64 => Sys2Proof.Machine.execRotateLeft64 s
  | .rotateRight8 => Sys2Proof.Machine.execRotateRight8 s
  | .rotateRight16 => Sys2Proof.Machine.execRotateRight16 s
  | .rotateRight32 => Sys2Proof.Machine.execRotateRight32 s
  | .rotateRight64 => Sys2Proof.Machine.execRotateRight64 s
  | .reverse8 => Sys2Proof.Machine.execReverse8 s
  | .reverse16 => Sys2Proof.Machine.execReverse16 s
  | .reverse32 => Sys2Proof.Machine.execReverse32 s
  | .reverse64 => Sys2Proof.Machine.execReverse64 s
  | .reverseBytes16 => Sys2Proof.Machine.execReverseBytes16 s
  | .reverseBytes32 => Sys2Proof.Machine.execReverseBytes32 s
  | .reverseBytes64 => Sys2Proof.Machine.execReverseBytes64 s
  | .len8 => Sys2Proof.Machine.execLen8 s
  | .len16 => Sys2Proof.Machine.execLen16 s
  | .len32 => Sys2Proof.Machine.execLen32 s
  | .len64 => Sys2Proof.Machine.execLen64 s
  | .leadingZeros => Sys2Proof.Machine.execLeadingZeros s
  | .trailingZeros => Sys2Proof.Machine.execTrailingZeros s
  | .onesCount => Sys2Proof.Machine.execOnesCount s
  | .rotateLeft => Sys2Proof.Machine.execRotateLeft s
  | .rotateRight => Sys2Proof.Machine.execRotateRight s
  | .reverse => Sys2Proof.Machine.execReverse s
  | .reverseBytes => Sys2Proof.Machine.execReverseBytes s
  | .len => Sys2Proof.Machine.execLen s

end Sys2Proof.Machine
end

