-- ==== Sys2Proof/Machine/Step.lean ====
section
/-! DEFINITION. One step of the machine is one evaluation, atomic from the inputs to the outputs (spec/10_state.md R20,
spec/70_reset_and_hazards.md R275). -/

namespace Sys2Proof.Machine

/-- R80: decode the `ctl` on the port and evaluate it, or record the fault of an illegal select (R82). -/
def step (s : State) : Host.Outcome State Fault Refusal :=
  match decode s.ctl with
  | .ok i => exec i s
  | .error _ => raiseIllegalSelect s

/-- The state in which the client drives a table word on `ctl`. The BCU fetches nothing (R28, R40), and the next step runs
what is on the port. `a` and `k` stay, and what was sampled of the inputs before is dropped (DESIGN
CHOICE, log entries 1 and 5). -/
def State.withFetchWord (s : State) (nbits w : Nat) : State := { s with ctl := tableSelect nbits w, sampled := none }

end Sys2Proof.Machine
end

