-- ==== Sys2Proof/Machine/Eval.lean ====
section
/-! DEFINITION. The combinational function of the BCU, written as the pseudocode of spec/40_adapters.md R80 is: it reads
the fields of `ctl` and decodes no instruction. It says what the two outputs carry for EVERY `ctl`, the illegal ones
too (R82). -/

namespace Sys2Proof.Machine

/-- R80: the `case fam of` of the pseudocode, at width `w`. -/
def familyResult (fam : BitVec 3) (w : Nat) (a k : Word) : Word :=
  match fam.toFin with
  | 0 => widenCount (lz (a.setWidth w))
  | 1 => widenCount (tz (a.setWidth w))
  | 2 => widenCount (pop (a.setWidth w))
  | 3 => widenValue (rol (a.setWidth w) k.toInt)
  | 4 => widenValue (ror (a.setWidth w) k.toInt)
  | 5 => widenValue (rev (a.setWidth w))
  | 6 => widenValue (revb (a.setWidth w))
  | 7 => widenCount (len (a.setWidth w))

/-- R80, R82: what the BCU drives on `res` and `ill`. -/
def outputs (p : Inputs) : Outputs :=
  { res := if isIllegal p.ctl then 0#64
           else familyResult (ctlFam p.ctl) (8 <<< (ctlWsz p.ctl).toNat) p.a p.k
    ill := illOf p.ctl }

/-- R273: what the BCU drives on `res` and `ill` for the inputs now on its ports, held stable. -/
def State.driven (s : State) : Outputs := outputs s.inputs

end Sys2Proof.Machine
end

