-- ==== Sys2Proof/Machine/Client.lean ====
section
/-! DEFINITION. The client (spec/10_state.md R20): it drives the inputs and samples the outputs, one
evaluation at a time, alone or on a BCU it shares with others. -/

namespace Sys2Proof.Machine

/-- R20: one use of the BCU: the client drives the inputs, then the BCU evaluates them. -/
def evaluate (p : Inputs) (s : State) : Host.Outcome State Fault Refusal := step (s.present p)

/-- R71: the inputs of the line `t <- Name(a, k)` on a BCU built with `NATIVE_W = n`. -/
def line (n : NativeWidth) (i : Instr) (a k : Word) : Inputs := { ctl := encode n i, a := a, k := k }

/-- Why a client's run is over before its last evaluation. -/
inductive Stop where
  | fault (r : Fault)
  | refusal (r : Refusal)
deriving DecidableEq, Repr

/-- What one evaluation gives its client: the outputs it samples, or the end of its run (R251). -/
inductive Answer where
  | sampled (o : Outputs)
  | ended (r : Stop)
deriving DecidableEq, Repr

/-- One evaluation as its client sees it, and the ports after it. An illegal select leaves its inputs on the ports with
nothing sampled. -/
def serveOne (p : Inputs) (s : State) : Option Answer × State :=
  match evaluate p s with
  | .next t => (t.sampled.map .sampled, t)
  | .fault r => (some (.ended (.fault r)), s.present p)
  | .refused r => (some (.ended (.refusal r)), s.present p)

/-- The ports at the end of a client's run, and the answers it got, the first one first. -/
structure Run where
  ports : State
  answers : List Answer
deriving DecidableEq, Repr

/-- R20, R251: evaluations made by one client, one at a time on one BCU. The client's first illegal select ends its run,
for the fault is final in a model. What it sampled before stays in its answers, and the illegal
inputs stay on the ports (log entry 6). -/
def session : List Inputs → State → Run
  | [], s => { ports := s, answers := [] }
  | p :: ps, s =>
    match serveOne p s with
    | (some (.ended r), t) => { ports := t, answers := [.ended r] }
    | (some (.sampled o), t) => { ports := (session ps t).ports, answers := .sampled o :: (session ps t).answers }
    | (none, t) => session ps t

/-- The ports at the end of a schedule, and each answer with the client it went to. -/
structure SharedRun where
  ports : State
  answers : List (Nat × Answer)
deriving DecidableEq, Repr

/-- R51, R259: evaluations made one at a time on one shared BCU, each for the client that is named with it. DESIGN CHOICE
(log entry 15): an illegal select ends the run of the client that made it and of no other. That client, now in `ended`,
makes no evaluation after it (R251), and every other client goes on (R254). -/
def serve : List (Nat × Inputs) → List Nat → State → SharedRun
  | [], _, s => { ports := s, answers := [] }
  | (c, p) :: rest, ended, s =>
    if c ∈ ended then serve rest ended s
    else
      match serveOne p s with
      | (some (.ended r), t) =>
        { ports := (serve rest (c :: ended) t).ports, answers := (c, .ended r) :: (serve rest (c :: ended) t).answers }
      | (some (.sampled o), t) =>
        { ports := (serve rest ended t).ports, answers := (c, .sampled o) :: (serve rest ended t).answers }
      | (none, t) => serve rest ended t

/-- The evaluations of client `c` in a schedule (R51, R259). -/
def ownInputs (c : Nat) (sched : List (Nat × Inputs)) : List Inputs :=
  (sched.filter fun e => e.1 == c).map (·.2)

/-- The answers that went to client `c`. -/
def ownAnswers (c : Nat) (r : SharedRun) : List Answer :=
  (r.answers.filter fun e => e.1 == c).map (·.2)

end Sys2Proof.Machine
end

