-- ==== Sys2Proof/Safety.lean ====
section
/-! DEFINITION. What a safe run is, and the terms the statements use. A claim about a client takes "no `IllegalSelect`" as
its premise (spec/60_exceptions.md R251). -/

namespace Sys2Proof.Safety

open Sys2Proof.Machine

/-- A safe sequence of evaluations: no input is an illegal select (R65, R251). -/
def SafeRun (ps : List Inputs) : Prop := ∀ p ∈ ps, isIllegal p.ctl = false

/-- R273, R275: what is sampled, if anything is, is what the BCU drives for the inputs now on the ports. -/
def SampleIsCurrent (s : State) : Prop := ∀ o, s.sampled = some o → o = s.driven

/-- What every step keeps of a BCU built with `NATIVE_W = n`: the built width, its output port, and a current sample. -/
def BcuInv (n : NativeWidth) (s : State) : Prop :=
  s.nativeW = n ∧ s.uintSize.toNat = n.bits ∧ SampleIsCurrent s

/-- The families that read `k` (R61). -/
def readsAmount (i : Instr) : Bool := instrFamily i == .rotateLeft || instrFamily i == .rotateRight

/-- The families whose result is a count (R61). -/
def isCounting (i : Instr) : Bool :=
  instrFamily i == .leadingZeros || instrFamily i == .trailingZeros || instrFamily i == .onesCount ||
    instrFamily i == .len

/-- R100 for `x = a[W-1:0]`: both forms of the definition, and the range. -/
def IsLeadingZeroCount (W : Nat) (a : Word) (c : Nat) : Prop :=
  c ≤ W ∧
  ((∀ i, i < W → a.getLsbD i = false) → c = W) ∧
  (∀ m, m < W → a.getLsbD m = true → (∀ i, m < i → i < W → a.getLsbD i = false) → c = W - 1 - m) ∧
  (∀ i, i < c → a.getLsbD (W - 1 - i) = false) ∧
  (c < W → a.getLsbD (W - 1 - c) = true)

/-- R120 for `x = a[W-1:0]`. -/
def IsTrailingZeroCount (W : Nat) (a : Word) (c : Nat) : Prop :=
  c ≤ W ∧
  ((∀ i, i < W → a.getLsbD i = false) → c = W) ∧
  (∀ i, i < c → a.getLsbD i = false) ∧
  (c < W → a.getLsbD c = true)

/-- R140 for `x = a[W-1:0]`: the number of positions below `W` that hold a 1. -/
def IsOnesCount (W : Nat) (a : Word) (c : Nat) : Prop := c = (List.range W).countP fun i => a.getLsbD i

/-- R230 for `x = a[W-1:0]`: the least number of bits that can represent `x`, and 1 + the position of its highest
set bit. -/
def IsBitLength (W : Nat) (a : Word) (c : Nat) : Prop :=
  c ≤ W ∧
  a.toNat % 2 ^ W < 2 ^ c ∧
  (∀ d, a.toNat % 2 ^ W < 2 ^ d → c ≤ d) ∧
  (a.toNat % 2 ^ W = 0 → c = 0) ∧
  (∀ m, m < W → a.getLsbD m = true → (∀ i, m < i → i < W → a.getLsbD i = false) → c = m + 1)

/-- R84: a value of width `W` on the result port: bit `i` is `f i` below `W` and 0 from `W` on. -/
def HasBits (W : Nat) (f : Nat → Bool) (v : Word) : Prop :=
  (∀ i, i < W → v.getLsbD i = f i) ∧ (∀ i, W ≤ i → v.getLsbD i = false)

end Sys2Proof.Safety
end

