-- ==== Sys2Proof/Certificates/Slice0/Obligations.lean ====
section
/-! DEFINITION. The statements for the provers. Each says in its docstring which rules of spec/ it comes from. -/

open Sys2Proof Sys2Proof.Machine Sys2Proof.Safety

/-- R64: the opcode map, written out from the table of the spec. -/
def Sys2Proof.Safety.opcodeMap : List (Select × Instr) :=
  [(0x00#8, .leadingZeros8), (0x08#8, .leadingZeros16), (0x10#8, .leadingZeros32), (0x18#8, .leadingZeros64),
   (0x01#8, .trailingZeros8), (0x09#8, .trailingZeros16), (0x11#8, .trailingZeros32), (0x19#8, .trailingZeros64),
   (0x02#8, .onesCount8), (0x0A#8, .onesCount16), (0x12#8, .onesCount32), (0x1A#8, .onesCount64),
   (0x03#8, .rotateLeft8), (0x0B#8, .rotateLeft16), (0x13#8, .rotateLeft32), (0x1B#8, .rotateLeft64),
   (0x04#8, .rotateRight8), (0x0C#8, .rotateRight16), (0x14#8, .rotateRight32), (0x1C#8, .rotateRight64),
   (0x05#8, .reverse8), (0x0D#8, .reverse16), (0x15#8, .reverse32), (0x1D#8, .reverse64),
   (0x0E#8, .reverseBytes16), (0x16#8, .reverseBytes32), (0x1E#8, .reverseBytes64),
   (0x07#8, .len8), (0x0F#8, .len16), (0x17#8, .len32), (0x1F#8, .len64)]

/-- The decoder accepts exactly the 31 selects of the opcode map, each for its own instruction (R64). -/
def Obligations.OpcodeMapIsTheDecoder : Prop :=
  (∀ p ∈ opcodeMap, decode p.1 = .ok p.2) ∧
  (∀ ctl : Select, ∀ i : Instr, decode ctl = .ok i → (ctl, i) ∈ opcodeMap) ∧
  opcodeMap.length = 31

/-- A ctl value is rejected exactly when R65 calls it an illegal select, and there are 225 of them (R65). -/
def Obligations.IllegalSelectsAreRejectedExactly : Prop :=
  (∀ ctl : Select, (∃ r, decode ctl = .error r) ↔
    (ctl.extractLsb' 5 3 ≠ 0b000#3 ∨ (ctl.extractLsb' 0 3 = 0b110#3 ∧ ctl.extractLsb' 3 2 = 0b00#2))) ∧
  ((List.range 256).countP fun n => isIllegal (BitVec.ofNat 8 n)) = 225 ∧
  ((List.range 256).countP fun n => (BitVec.ofNat 8 n).extractLsb' 5 3 != 0b000#3) = 224 ∧
  (∀ ctl : Select, isIllegal ctl = true → ctl.extractLsb' 5 3 = 0b000#3 → ctl = 0x06#8)

/-- Decoding the encoding of a well-formed instruction gives that instruction (30_encoding.md §1 and §2). -/
def Obligations.DecodeOfEncodeIsTheInstruction : Prop :=
  ∀ (n : NativeWidth) (i : Instr), i.wf = true → decode (encode n i) = .ok i

/-- Every ctl value that decodes is the encoding of what it decodes to (30_encoding.md §1 and §2, 30_encoding.md R62, R70). -/
def Obligations.EncodeOfDecodeIsTheSelect : Prop :=
  ∀ (n : NativeWidth) (ctl : Select) (i : Instr), decode ctl = .ok i → i.wf = true ∧ encode n i = ctl

/-- A native pseudo-instruction has the ctl value f | 0x10 or f | 0x18, and expands to the operation of width NATIVE_W (R73). -/
def Obligations.NativeSelectsExpand : Prop :=
  ∀ i : Instr, i.wf = false →
    encode .w32 i = (codeOfFamily (instrFamily i)).setWidth 8 ||| 0x10#8 ∧
    encode .w64 i = (codeOfFamily (instrFamily i)).setWidth 8 ||| 0x18#8 ∧
    ctlWsz (encode .w32 i) = 0b10#2 ∧ ctlWsz (encode .w64 i) = 0b11#2 ∧
    ∀ n : NativeWidth, decode (encode n i) = .ok (resolve n i) ∧
      instrFamily (resolve n i) = instrFamily i ∧ widthBits (instrWidth n (resolve n i)) = n.bits

/-- A step runs the instruction that the ctl port decodes to (40_adapters.md §1, 10_state.md R28). -/
def Obligations.StepRunsTheDecodedInstruction : Prop :=
  ∀ (s : State) (i : Instr), decode s.ctl = .ok i → step s = exec i s

/-- A step completes for every legal ctl, whatever a and k are, and faults with IllegalSelect(ctl) for every illegal one (60_exceptions.md R250, R251, 40_adapters.md R82, R88). -/
def Obligations.StepFaultsExactlyOnIllegalSelects : Prop :=
  ∀ s : State,
    (isIllegal s.ctl = false → ∃ t o, step s = .next t ∧ t.sampled = some o ∧ o.ill = 0#1) ∧
    (isIllegal s.ctl = true → step s = .fault (.illegalSelect s.ctl))

/-- Decoding and executing agrees with the evaluation pseudocode of R80 on every state (R80, R81). -/
def Obligations.StepIsTheCombinationalFunction : Prop :=
  ∀ s : State,
    step s = (if (outputs s.inputs).ill = 1#1 then .fault (.illegalSelect s.ctl)
              else .next { s with sampled := some { res := (outputs s.inputs).res, ill := 0#1 } }) ∧
    ((outputs s.inputs).ill = 1#1 ↔ isIllegal s.ctl = true)

/-- An illegal select drives ill = 1 and res = 0 whatever a and k are, and its evaluation is the fault IllegalSelect(ctl) (R82). -/
def Obligations.IllegalSelectDrivesZero : Prop :=
  ∀ (p : Inputs) (s : State), isIllegal p.ctl = true →
    outputs p = { res := 0#64, ill := 1#1 } ∧ evaluate p s = .fault (.illegalSelect p.ctl)

/-- A legal select driven on the ports an illegal one was on evaluates normally (the model's reading of 'next', log entry 6) (60_exceptions.md R254, R255). -/
def Obligations.LegalSelectAfterIllegalIsNormal : Prop :=
  ∀ (s : State) (p : Inputs), isIllegal s.ctl = true → isIllegal p.ctl = false →
    step s = .fault (.illegalSelect s.ctl) ∧
    evaluate p s = .next { s with ctl := p.ctl, a := p.a, k := p.k,
                                  sampled := some { res := (outputs p).res, ill := 0#1 } }

/-- Every step keeps the built width, the uint_size output and a current sample (10_state.md R24, R25, 70_reset_and_hazards.md R273, 40_adapters.md R80). -/
def Obligations.EveryStepKeepsTheBcuInvariant : Prop :=
  ∀ (n : NativeWidth) (s t : State), BcuInv n s → step s = .next t →
    BcuInv n t ∧ t.sampled = some t.driven

/-- The invariant holds after power-up, for either built width, and so at reset (70_reset_and_hazards.md R272, R273, 10_state.md §6). -/
def Obligations.PowerUpMeetsTheBcuInvariant : Prop :=
  (∀ n : NativeWidth, BcuInv n (State.powerUp n) ∧ (State.powerUp n).sampled = none) ∧
  BcuInv Config.nativeW State.reset ∧ State.reset.sampled = none

/-- uint_size reads 0b0100000 or 0b1000000 by NATIVE_W, whatever has been driven and evaluated (R24). -/
def Obligations.UintSizeAlwaysReadsNativeW : Prop :=
  ∀ (ps : List Inputs) (s : State),
    (session ps s).ports.nativeW = s.nativeW ∧
    (session ps s).ports.uintSize = (match s.nativeW with | .w32 => 0b0100000#7 | .w64 => 0b1000000#7) ∧
    s.uintSize = (session ps s).ports.uintSize

/-- Every instruction completes and changes nothing but what the client has sampled (10_state.md R21 to R32, 20_memory.md R40, 40_adapters.md R81). -/
def Obligations.EveryInstructionFrame : Prop :=
  ∀ (i : Instr) (s : State), ∃ t o, exec i s = .next t ∧ t.ctl = s.ctl ∧ t.a = s.a ∧ t.k = s.k ∧
    t.nativeW = s.nativeW ∧ t.uintSize = s.uintSize ∧ t.ill = s.ill ∧ t.sampled = some o ∧ o.ill = 0#1

/-- An instruction's result depends on a[W-1:0], for a rotation on k mod W, and, as exec ignores ctl (the model's choice, log entry 7), on no other port (40_adapters.md R89, 30_encoding.md R67, 44_rotate.md R160). -/
def Obligations.ResultIgnoresUnselectedBits : Prop :=
  ∀ (i : Instr) (s s' : State), s.nativeW = s'.nativeW →
    s.a.setWidth (widthBits (instrWidth s.nativeW i)) = s'.a.setWidth (widthBits (instrWidth s.nativeW i)) →
    (readsAmount i = true →
      s.k.toNat % widthBits (instrWidth s.nativeW i) = s'.k.toNat % widthBits (instrWidth s.nativeW i)) →
    ∃ t t' o, exec i s = .next t ∧ exec i s' = .next t' ∧ t.sampled = some o ∧ t'.sampled = some o

/-- A count is at most W and has res[63:7] = 0; a value has res[63:W] = 0 (R84, R85). -/
def Obligations.ResultFitsItsWidth : Prop :=
  ∀ (i : Instr) (s : State), ∃ t o, exec i s = .next t ∧ t.sampled = some o ∧
    (isCounting i = true → o.res.toNat ≤ widthBits (instrWidth s.nativeW i) ∧ o.res >>> 7 = 0#64) ∧
    (isCounting i = false → o.res >>> widthBits (instrWidth s.nativeW i) = 0#64)

/-- A native-width instruction does exactly what the instruction of width NATIVE_W of its family does (R87). -/
def Obligations.NativeDispatch : Prop :=
  ∀ (i : Instr) (s : State),
    exec i s = exec (resolve s.nativeW i) s ∧ instrFamily (resolve s.nativeW i) = instrFamily i ∧
    (i.wf = false → widthBits (instrWidth s.nativeW (resolve s.nativeW i)) = s.nativeW.bits) ∧
    (i.wf = true → resolve s.nativeW i = i)

/-- The line t <- Name(a, k) evaluates the named instruction on a and k, for native names too (30_encoding.md R71, R72). -/
def Obligations.AssemblerLineEvaluates : Prop :=
  ∀ (i : Instr) (a k : Word) (s : State),
    evaluate (line s.nativeW i a k) s = exec i (s.present (line s.nativeW i a k))

/-- LeadingZeros at every width: the count of leading 0 bits of a[W-1:0] is sampled on res with ill = 0, nothing else changes (R100, R105, R107). -/
def Obligations.LeadingZerosResult : Prop :=
  decode 0x00#8 = .ok .leadingZeros8 ∧ decode 0x08#8 = .ok .leadingZeros16 ∧ decode 0x10#8 = .ok .leadingZeros32 ∧ decode 0x18#8 = .ok .leadingZeros64 ∧
  encode .w32 .leadingZeros = 0x10#8 ∧ encode .w64 .leadingZeros = 0x18#8 ∧
  ∀ s : State, ∀ p ∈ [(Instr.leadingZeros8, 8), (Instr.leadingZeros16, 16), (Instr.leadingZeros32, 32), (Instr.leadingZeros64, 64), (Instr.leadingZeros, s.nativeW.bits)],
    ∃ c, IsLeadingZeroCount p.2 s.a c ∧ exec p.1 s = .next { s with sampled := some { res := BitVec.ofNat 64 c, ill := 0#1 } }

/-- TrailingZeros at every width: the count of trailing 0 bits of a[W-1:0] is sampled on res with ill = 0, nothing else changes (R120, R124, R126, R128). -/
def Obligations.TrailingZerosResult : Prop :=
  decode 0x01#8 = .ok .trailingZeros8 ∧ decode 0x09#8 = .ok .trailingZeros16 ∧ decode 0x11#8 = .ok .trailingZeros32 ∧ decode 0x19#8 = .ok .trailingZeros64 ∧
  encode .w32 .trailingZeros = 0x11#8 ∧ encode .w64 .trailingZeros = 0x19#8 ∧
  ∀ s : State, ∀ p ∈ [(Instr.trailingZeros8, 8), (Instr.trailingZeros16, 16), (Instr.trailingZeros32, 32), (Instr.trailingZeros64, 64), (Instr.trailingZeros, s.nativeW.bits)],
    ∃ c, IsTrailingZeroCount p.2 s.a c ∧ exec p.1 s = .next { s with sampled := some { res := BitVec.ofNat 64 c, ill := 0#1 } }

/-- OnesCount at every width: the number of 1 bits of a[W-1:0] is sampled on res with ill = 0, nothing else changes (R144, R145, R146, R147). -/
def Obligations.OnesCountResult : Prop :=
  decode 0x02#8 = .ok .onesCount8 ∧ decode 0x0A#8 = .ok .onesCount16 ∧ decode 0x12#8 = .ok .onesCount32 ∧ decode 0x1A#8 = .ok .onesCount64 ∧
  encode .w32 .onesCount = 0x12#8 ∧ encode .w64 .onesCount = 0x1A#8 ∧
  ∀ s : State, ∀ p ∈ [(Instr.onesCount8, 8), (Instr.onesCount16, 16), (Instr.onesCount32, 32), (Instr.onesCount64, 64), (Instr.onesCount, s.nativeW.bits)],
    ∃ c, IsOnesCount p.2 s.a c ∧ exec p.1 s = .next { s with sampled := some { res := BitVec.ofNat 64 c, ill := 0#1 } }

/-- RotateLeft at every width: bit i of res is bit (i - s) mod W of a[W-1:0], with s = k mod W (R164, R165, R166, R167, R168). -/
def Obligations.RotateLeftResult : Prop :=
  decode 0x03#8 = .ok .rotateLeft8 ∧ decode 0x0B#8 = .ok .rotateLeft16 ∧ decode 0x13#8 = .ok .rotateLeft32 ∧ decode 0x1B#8 = .ok .rotateLeft64 ∧
  encode .w32 .rotateLeft = 0x13#8 ∧ encode .w64 .rotateLeft = 0x1B#8 ∧
  ∀ s : State, ∀ p ∈ [(Instr.rotateLeft8, 8), (Instr.rotateLeft16, 16), (Instr.rotateLeft32, 32), (Instr.rotateLeft64, 64), (Instr.rotateLeft, s.nativeW.bits)],
    ∃ v, HasBits p.2 (fun i => s.a.getLsbD ((((i : Int) - s.k.toInt % (p.2 : Int)) % (p.2 : Int)).toNat)) v ∧ exec p.1 s =
        .next { s with sampled := some { res := v, ill := 0#1 } }

/-- RotateRight at every width: bit i of res is bit (i + s) mod W of a[W-1:0], with s = k mod W (R169, R170, R171, R172, R173). -/
def Obligations.RotateRightResult : Prop :=
  decode 0x04#8 = .ok .rotateRight8 ∧ decode 0x0C#8 = .ok .rotateRight16 ∧ decode 0x14#8 = .ok .rotateRight32 ∧ decode 0x1C#8 = .ok .rotateRight64 ∧
  encode .w32 .rotateRight = 0x14#8 ∧ encode .w64 .rotateRight = 0x1C#8 ∧
  ∀ s : State, ∀ p ∈ [(Instr.rotateRight8, 8), (Instr.rotateRight16, 16), (Instr.rotateRight32, 32), (Instr.rotateRight64, 64), (Instr.rotateRight, s.nativeW.bits)],
    ∃ v, HasBits p.2 (fun i => s.a.getLsbD ((((i : Int) + s.k.toInt % (p.2 : Int)) % (p.2 : Int)).toNat)) v ∧ exec p.1 s =
        .next { s with sampled := some { res := v, ill := 0#1 } }

/-- Reverse at every width: bit i of res is bit W-1-i of a[W-1:0] (R190, R193, R194, R195, R196). -/
def Obligations.ReverseResult : Prop :=
  decode 0x05#8 = .ok .reverse8 ∧ decode 0x0D#8 = .ok .reverse16 ∧ decode 0x15#8 = .ok .reverse32 ∧ decode 0x1D#8 = .ok .reverse64 ∧
  encode .w32 .reverse = 0x15#8 ∧ encode .w64 .reverse = 0x1D#8 ∧
  ∀ s : State, ∀ p ∈ [(Instr.reverse8, 8), (Instr.reverse16, 16), (Instr.reverse32, 32), (Instr.reverse64, 64), (Instr.reverse, s.nativeW.bits)],
    ∃ v, HasBits p.2 (fun i => s.a.getLsbD (p.2 - 1 - i)) v ∧ exec p.1 s =
        .next { s with sampled := some { res := v, ill := 0#1 } }

/-- ReverseBytes at 16, 32, 64 and native width: byte j of res is byte W/8-1-j of a[W-1:0] (R210, R211, R213, R214, R215, R216). -/
def Obligations.ReverseBytesResult : Prop :=
  decode 0x0E#8 = .ok .reverseBytes16 ∧ decode 0x16#8 = .ok .reverseBytes32 ∧ decode 0x1E#8 = .ok .reverseBytes64 ∧
  encode .w32 .reverseBytes = 0x16#8 ∧ encode .w64 .reverseBytes = 0x1E#8 ∧
  decode 0x06#8 = .error .reverseBytes8 ∧
  ∀ s : State, ∀ p ∈ [(Instr.reverseBytes16, 16), (Instr.reverseBytes32, 32), (Instr.reverseBytes64, 64), (Instr.reverseBytes, s.nativeW.bits)],
    ∃ v : Word, (∀ j, j < p.2 / 8 → v.extractLsb' (8 * j) 8 = s.a.extractLsb' (8 * (p.2 / 8 - 1 - j)) 8) ∧
      (∀ i, p.2 ≤ i → v.getLsbD i = false) ∧ exec p.1 s =
        .next { s with sampled := some { res := v, ill := 0#1 } }

/-- Len at every width: the bit length of a[W-1:0] is sampled on res with ill = 0, nothing else changes (R230, R233, R234, R235, R236, R237). -/
def Obligations.LenResult : Prop :=
  decode 0x07#8 = .ok .len8 ∧ decode 0x0F#8 = .ok .len16 ∧ decode 0x17#8 = .ok .len32 ∧ decode 0x1F#8 = .ok .len64 ∧
  encode .w32 .len = 0x17#8 ∧ encode .w64 .len = 0x1F#8 ∧
  ∀ s : State, ∀ p ∈ [(Instr.len8, 8), (Instr.len16, 16), (Instr.len32, 32), (Instr.len64, 64), (Instr.len, s.nativeW.bits)],
    ∃ c, IsBitLength p.2 s.a c ∧ exec p.1 s = .next { s with sampled := some { res := BitVec.ofNat 64 c, ill := 0#1 } }

/-- LeadingZeros8, TrailingZeros8, OnesCount8 and Reverse8 give the ROM entry of a[7:0] (R103, R192). -/
def Obligations.EightBitSelectsReadOneTableEntry : Prop :=
  decode 0x00#8 = .ok .leadingZeros8 ∧ decode 0x05#8 = .ok .reverse8 ∧
  ∀ s : State,
    (lutLz8 (s.a.setWidth 8)).toNat = lz (s.a.setWidth 8) ∧ lutRev8 (s.a.setWidth 8) = rev (s.a.setWidth 8) ∧
    exec .leadingZeros8 s = .next { s with sampled := some { res := (lutLz8 (s.a.setWidth 8)).setWidth 64, ill := 0#1 } } ∧
    exec .trailingZeros8 s = .next { s with sampled := some { res := (lutTz8 (s.a.setWidth 8)).setWidth 64, ill := 0#1 } } ∧
    exec .onesCount8 s = .next { s with sampled := some { res := (lutPop8 (s.a.setWidth 8)).setWidth 64, ill := 0#1 } } ∧
    exec .reverse8 s = .next { s with sampled := some { res := (lutRev8 (s.a.setWidth 8)).setWidth 64, ill := 0#1 } }

/-- Every entry of the lookup-table ROM is what its formula gives, and the ROM has 256 entries (R42). -/
def Obligations.LutListingMeetsItsFormulas : Prop :=
  lutLz8Listing.length = 256 ∧ lutTz8Listing.length = 256 ∧ lutPop8Listing.length = 256 ∧
  lutRev8Listing.length = 256 ∧
  ∀ i : Byte, (lutLz8 i).toNat = lz i ∧ (lutTz8 i).toNat = tz i ∧ (lutPop8 i).toNat = pop i ∧ lutRev8 i = rev i

/-- The leading-zero byte scan over the ROM gives the reference count at every operand of any number of bytes (R101). -/
def Obligations.LeadingByteScanIsTheReference : Prop :=
  ∀ (n : Nat) (x : BitVec (8 * n)), lzScan x = lz x

/-- The trailing-zero byte scan over the ROM gives the reference count at every operand of any number of bytes (R121). -/
def Obligations.TrailingByteScanIsTheReference : Prop :=
  ∀ (n : Nat) (x : BitVec (8 * n)), tzScan x = tz x

/-- The 64-bit detectors made of two 32-bit halves give the reference counts (R102, R122). -/
def Obligations.SplitDetectorsAreTheReference : Prop :=
  ∀ x : BitVec 64, lzSplit x = lz x ∧ tzSplit x = tz x

/-- For every legal DB_B, DBPOS has 64 entries and DBPOS[idx(p)] = p, which defines every entry exactly once (20_memory.md R44, R45, 93_implementation_defined.md G2). -/
def Obligations.DeBruijnTableInvertsTheIndex : Prop :=
  ∀ b : DeBruijnConstant,
    (dbPosTable b).length = 64 ∧
    (∀ p q, p < 64 → q < 64 → deBruijnIndex b.val p = deBruijnIndex b.val q → p = q) ∧
    (∀ p, p < 64 → (dbPos b (deBruijnIndex b.val p)).toNat = p) ∧
    (∀ i : BitVec 6, ∃ p, p < 64 ∧ deBruijnIndex b.val p = i)

/-- For every legal DB_B, the index lookup of 2^p is p (20_memory.md R46, 93_implementation_defined.md G2). -/
def Obligations.DeBruijnLookupFindsThePosition : Prop :=
  ∀ p : Nat, p < 64 →
    (∀ b : DeBruijnConstant, (dbIndexOf b (BitVec.ofNat 64 (2 ^ p))).toNat = p) ∧
    (dbIndex (BitVec.ofNat 64 (2 ^ p))).toNat = p

/-- The De Bruijn path gives the reference trailing-zero count at every width up to 64, for every legal DB_B (42_trailing_zeros.md R123, 93_implementation_defined.md G2, G4). -/
def Obligations.DeBruijnPathIsTheReference : Prop :=
  ∀ (w : Nat) (x : BitVec w), w ≤ 64 → (∀ b : DeBruijnConstant, tzDeBruijn b x = tz x) ∧ tzLookup x = tz x

/-- The spec's example constant has the De Bruijn property, with the indices and the position table the spec lists (20_memory.md R44, R45, 93_implementation_defined.md G1). -/
def Obligations.ExampleDeBruijnConstantIsLegal : Prop :=
  (List.range 64).map (fun p => (deBruijnIndex 0x03F79D71B4CA8B09#64 p).toNat) =
    ([0, 1, 3, 7, 15, 31, 63, 62, 61, 59, 55, 47, 30, 60, 57, 51] ++
      [39, 14, 29, 58, 53, 43, 23, 46, 28, 56, 49, 35, 6, 13, 27, 54] ++
      [45, 26, 52, 41, 19, 38, 12, 25, 50, 37, 10, 21, 42, 20, 40, 17] ++
      [34, 5, 11, 22, 44, 24, 48, 33, 2, 4, 9, 18, 36, 8, 16, 32]) ∧
  ((List.range 64).map (deBruijnIndex 0x03F79D71B4CA8B09#64)).Nodup ∧
  ∀ b : DeBruijnConstant, b.val = 0x03F79D71B4CA8B09#64 →
    (dbPosTable b).map (fun e => e.toNat) =
    ([0, 1, 56, 2, 57, 49, 28, 3, 61, 58, 42, 50, 38, 29, 17, 4] ++
      [62, 47, 59, 36, 45, 43, 51, 22, 53, 39, 33, 30, 24, 18, 12, 5] ++
      [63, 55, 48, 27, 60, 41, 37, 16, 46, 35, 44, 21, 52, 32, 23, 11] ++
      [54, 26, 40, 15, 34, 20, 31, 10, 25, 14, 19, 9, 13, 8, 7, 6])

/-- The sum of the ROM's population counts over the bytes is the reference population count (43_ones_count.md R141). -/
def Obligations.ByteTablePopulationIsTheReference : Prop :=
  ∀ (n : Nat) (x : BitVec (8 * n)), popTable x = pop x ∧ popTable x ≤ 8 * n

/-- The SWAR reduction gives the reference population count at widths 8, 16, 32 and 64 (43_ones_count.md R142, 93_implementation_defined.md G3). -/
def Obligations.SwarPopulationIsTheReference : Prop :=
  (∀ x : BitVec 8, popSwar x = pop x) ∧ (∀ x : BitVec 16, popSwar x = pop x) ∧
  (∀ x : BitVec 32, popSwar x = pop x) ∧ (∀ x : BitVec 64, popSwar x = pop x)

/-- Clearing the lowest set bit until the value is zero takes as many passes as there are set bits (R140). -/
def Obligations.ClearingLoopCountsTheOnes : Prop :=
  ∀ (w : Nat) (x : BitVec w),
    (x ≠ 0#w → ∀ i, i < w → (clearLowest x).getLsbD i = (x.getLsbD i && decide (i ≠ lsbIndex x))) ∧
    clearLowestTimes x (pop x) = 0#w ∧ popLoop x w = pop x ∧
    pop x = ((List.range w).map fun i => (x.getLsbD i).toNat).sum ∧ pop x ≤ w

/-- Reversing each byte through the ROM and swapping the bytes, in either order, is the reference bit reversal (R191). -/
def Obligations.ReversalComposesFromBytes : Prop :=
  ∀ (n : Nat) (x : BitVec (8 * n)), revTableThenSwap x = rev x ∧ revSwapThenTable x = rev x

/-- The mask-and-shift networks give the reference byte reversal at 16, 32 and 64 bits (46_reverse_bytes.md R212). -/
def Obligations.ByteReverserNetworksAreTheReference : Prop :=
  (∀ x : BitVec 16, revbNet16 x = revb x) ∧ (∀ x : BitVec 32, revbNet32 x = revb x) ∧
  (∀ x : BitVec 64, revbNet64 x = revb x)

/-- Every operation but the rotations follows from the 64-bit engine by the adapter identities (R86). -/
def Obligations.WidthAdaptersShareOneEngine : Prop :=
  (∀ (w : Nat) (x : BitVec w), w ≤ 64 →
    lzShared x = lz x ∧ tzShared x = tz x ∧ popShared x = pop x ∧ lenShared x = len x ∧ revShared x = rev x) ∧
  (∀ (n : Nat) (x : BitVec (8 * n)), n ≤ 8 → revbShared x = revb x)

/-- LZ is TZ of the reversal, and LZ + LEN is the width, at every operand (R108, R231). -/
def Obligations.LeadingTrailingLengthLaws : Prop :=
  (∀ (w : Nat) (x : BitVec w), lz x = tz (rev x) ∧ len x = w - lz x ∧ lz x + len x = w) ∧
  (∀ (n : Nat) (x : BitVec (8 * n)), lenByScan x = len x)

/-- Rotation is invertible, has period W, and keeps the population count (R174). -/
def Obligations.RotationLaws : Prop :=
  ∀ (w : Nat) (x : BitVec w) (k : Int), 0 < w →
    rol (rol x k) (-k) = x ∧ rol x (w : Int) = x ∧ rol x 0 = x ∧ ror (rol x k) k = x ∧
    ror x k = rol x ((w : Int) - k % (w : Int)) ∧ pop (rol x k) = pop x

/-- An integer amount of any size gives the same rotation through the 64-bit port, where only its low log2(W) bits count (R160, R163). -/
def Obligations.RotationAmountOfAnyMagnitude : Prop :=
  ∀ (m : Nat), m ≤ 6 →
    (∀ k : Word, rotateAmount (2 ^ m) k.toInt = k.toNat % 2 ^ m) ∧
    (∀ kint : Int, rotateAmount (2 ^ m) kint < 2 ^ m) ∧
    (∀ (x : BitVec (2 ^ m)) (kint : Int),
      rol x (BitVec.ofInt 64 kint).toInt = rol x kint ∧ ror x (BitVec.ofInt 64 kint).toInt = ror x kint)

/-- Bit reversal is an involution that mirrors a single bit and swaps leading with trailing zeros (R197). -/
def Obligations.ReversalLaws : Prop :=
  ∀ (w : Nat) (x : BitVec w),
    rev (rev x) = x ∧ rev (0#w) = 0#w ∧
    (∀ p, p < w → rev (BitVec.ofNat w (2 ^ p)) = BitVec.ofNat w (2 ^ (w - 1 - p))) ∧
    pop (rev x) = pop x ∧ lz (rev x) = tz x

/-- Byte reversal is an involution, and it is not bit reversal (R217). -/
def Obligations.ByteReversalLaws : Prop :=
  (∀ (n : Nat) (x : BitVec (8 * n)), revb (revb x) = x) ∧
  revb 0x0001#16 = 0x0100#16 ∧ rev 0x0001#16 = 0x8000#16

/-- Evaluating the same inputs twice gives the same outputs (20_memory.md R49). -/
def Obligations.EvaluationIsIdempotent : Prop :=
  ∀ s t : State, step s = .next t → step t = .next t

/-- A safe sequence of evaluations completes, and each result is the function of that evaluation's own inputs (40_adapters.md R89, 20_memory.md R51, 70_reset_and_hazards.md R276). -/
def Obligations.ResultsDependOnNoEarlierEvaluation : Prop :=
  ∀ (ps : List Inputs) (s : State), SafeRun ps →
    (session ps s).answers = ps.map fun p => .sampled (outputs p)

/-- A client's first illegal select ends its run in the fault that carries it, and its earlier answers stay (the model's choice, log entries 1 and 6) (60_exceptions.md R251, R254). -/
def Obligations.SessionEndsAtTheFirstIllegalSelect : Prop :=
  ∀ (ps qs : List Inputs) (q : Inputs) (s : State), SafeRun ps → isIllegal q.ctl = true →
    (session (ps ++ q :: qs) s).answers =
      ps.map (fun p => .sampled (outputs p)) ++ [.ended (.fault (.illegalSelect q.ctl))] ∧
    (session (ps ++ q :: qs) s).ports.ctl = q.ctl ∧ (session (ps ++ q :: qs) s).ports.ill = 1#1 ∧
    (session (ps ++ q :: qs) s).ports.sampled = none

/-- In any schedule of clients on one BCU (the model's choice, log entries 6, 10 and 15), each client gets what it gets alone (20_memory.md R51, 60_exceptions.md R254, R259). -/
def Obligations.ClientsDoNotObserveEachOther : Prop :=
  ∀ (sched : List (Nat × Inputs)) (s s' : State) (c : Nat),
    ownAnswers c (serve sched [] s) = (session (ownInputs c sched) s').answers

/-- The output ill is 1 exactly when the ctl now on the port is an illegal select, evaluated or not (10_state.md R29, 30_encoding.md R65). -/
def Obligations.IllIsTheFunctionOfCtl : Prop :=
  (∀ s : State, s.ill = 1#1 ↔
    (s.ctl.extractLsb' 5 3 ≠ 0b000#3 ∨ (s.ctl.extractLsb' 0 3 = 0b110#3 ∧ s.ctl.extractLsb' 3 2 = 0b00#2))) ∧
  (∀ s s' : State, s.ctl = s'.ctl → s.ill = s'.ill) ∧
  (∀ (s : State) (p : Inputs), (s.present p).ill = illOf p.ctl) ∧
  (∀ (s : State) (nbits w : Nat), (s.withFetchWord nbits w).ill = illOf (tableSelect nbits w)) ∧
  (∀ s : State, s.driven.ill = s.ill)

/-- From a drive of the inputs until their evaluation nothing is sampled (the model's choice, log entries 1, 5 and 11) (70_reset_and_hazards.md R275, 93_implementation_defined.md S6). -/
def Obligations.ChangedInputsHaveNoResult : Prop :=
  (∀ (s : State) (p : Inputs), (s.present p).sampled = none) ∧
  (∀ (s : State) (nbits w : Nat), (s.withFetchWord nbits w).sampled = none) ∧
  (∀ (s t : State) (p : Inputs), evaluate p s = .next t → t.inputs = p ∧ t.sampled = some (outputs p))

/-- The outputs of a step are a function of ctl, a[W-1:0] for a legal select, and k for a rotation (R89). -/
def Obligations.StepDependsOnlyOnTheSelectedPorts : Prop :=
  ∀ s s' : State, s.ctl = s'.ctl →
    (∀ i : Instr, decode s.ctl = .ok i →
      s.a.setWidth (widthBits (instrWidth s.nativeW i)) = s'.a.setWidth (widthBits (instrWidth s.nativeW i)) →
      (readsAmount i = true → s.k = s'.k) →
      ∃ t t' o, step s = .next t ∧ step s' = .next t' ∧ t.sampled = some o ∧ t'.sampled = some o ∧ s.driven = o ∧
        s'.driven = o) ∧
    (isIllegal s.ctl = true → s.driven = s'.driven)
end

