-- ==== Sys2Proof/Laws/Operands.lean ====
section
/-! SUPPORT. What the bit and byte helpers compute. -/

namespace Sys2Proof.Machine

/-- Bit `i` of `ofBits w f` is `f i` below `w`, and 0 from `w` on. -/
@[simp] theorem getLsbD_ofBits (w : Nat) (f : Nat → Bool) (i : Nat) :
    (ofBits w f).getLsbD i = (decide (i < w) && f i) := by
  induction w with
  | zero => simp [ofBits]
  | succ n ih =>
    rw [ofBits, BitVec.getLsbD_cons, ih]
    by_cases h : i = n
    · subst h; simp
    · simp only [h, if_false]
      congr 1
      exact decide_eq_decide.mpr (by omega)

/-- Bit `i` of byte `j` is bit `8j + i` of the value. -/
@[simp] theorem getLsbD_byteAt {w : Nat} (x : BitVec w) (j i : Nat) :
    (byteAt x j).getLsbD i = (decide (i < 8) && x.getLsbD (8 * j + i)) := by
  simp [byteAt]

/-- A bit of the narrowed operand is that bit of `a`, below the width. -/
@[simp] theorem getLsbD_operand (w : Nat) (s : State) (i : Nat) :
    (operand w s).getLsbD i = (decide (i < w) && s.a.getLsbD i) := by
  simp [operand]

/-- If some bit below `n` is set, `topSetBelow` is the highest such position. -/
theorem topSetBelow_spec {w : Nat} (x : BitVec w) {n m : Nat} (hm : m < n) (hx : x.getLsbD m = true) :
    topSetBelow x n < n ∧ x.getLsbD (topSetBelow x n) = true ∧
      ∀ i, topSetBelow x n < i → i < n → x.getLsbD i = false := by
  induction n with
  | zero => omega
  | succ n ih =>
    by_cases h : x.getLsbD n = true
    · simp only [topSetBelow, h, if_true]
      exact ⟨by omega, trivial, fun i h1 h2 => by omega⟩
    · have hmn : m < n := by
        rcases Nat.lt_succ_iff_lt_or_eq.mp hm with h' | h'
        · exact h'
        · exact absurd (h' ▸ hx) h
      obtain ⟨h1, h2, h3⟩ := ih hmn
      simp only [topSetBelow, h]
      refine ⟨by simpa using Nat.lt_succ_of_lt h1, by simpa using h2, fun i hi hin => ?_⟩
      rcases Nat.lt_succ_iff_lt_or_eq.mp hin with h' | h'
      · exact h3 i (by simpa using hi) h'
      · simpa [h'] using h

/-- `lowSetFrom` is the first set position of its range, or the range's end. -/
theorem lowSetFrom_spec {w : Nat} (x : BitVec w) (start n : Nat) :
    start ≤ lowSetFrom x start n ∧ lowSetFrom x start n ≤ start + n ∧
      (∀ i, start ≤ i → i < lowSetFrom x start n → x.getLsbD i = false) ∧
      (lowSetFrom x start n < start + n → x.getLsbD (lowSetFrom x start n) = true) := by
  induction n generalizing start with
  | zero => exact ⟨Nat.le_refl _, Nat.le_refl _, fun i h1 h2 => by simp only [lowSetFrom] at h2; omega,
      fun h => by simp [lowSetFrom] at h⟩
  | succ n ih =>
    by_cases h : x.getLsbD start = true
    · simp only [lowSetFrom, h, if_true]
      exact ⟨Nat.le_refl _, by omega, fun i h1 h2 => by omega, fun _ => trivial⟩
    · obtain ⟨h1, h2, h3, h4⟩ := ih (start + 1)
      simp only [lowSetFrom, h, if_false, Bool.false_eq_true]
      refine ⟨by omega, by omega, fun i hi hlt => ?_, fun hlt => h4 (by omega)⟩
      by_cases hs : i = start
      · subst hs; simpa using h
      · exact h3 i (by omega) hlt

/-- The sum of the bits below `n` is at most `n`. -/
theorem onesBelow_le {w : Nat} (x : BitVec w) (n : Nat) : onesBelow x n ≤ n := by
  induction n with
  | zero => exact Nat.le_refl _
  | succ n ih => have := Bool.toNat_le (x.getLsbD n); simp only [onesBelow]; omega

end Sys2Proof.Machine
end

