-- ==== Sys2Proof/Laws/Families.lean ====
section
/-! SUPPORT. What the reference functions of the value families compute, bit by bit. -/

namespace Sys2Proof.Machine

/-- R160: the reduced amount is below the width. -/
theorem rotateAmount_lt {w : Nat} (hw : 0 < w) (kint : Int) : rotateAmount w kint < w := by
  have h1 := Int.emod_nonneg kint (b := (w : Int)) (by omega)
  have h2 := Int.emod_lt_of_pos kint (b := (w : Int)) (by omega)
  unfold rotateAmount
  omega

/-- R190: bit `i` of the reversal is bit `w - 1 - i` of the operand. -/
@[simp] theorem getLsbD_rev {w : Nat} (x : BitVec w) (i : Nat) :
    (rev x).getLsbD i = (decide (i < w) && x.getLsbD (w - 1 - i)) := by
  simp [rev]

/-- R210: bit `i` of the byte reversal lies in the mirrored byte, at the same place inside it. -/
@[simp] theorem getLsbD_revb {w : Nat} (x : BitVec w) (i : Nat) :
    (revb x).getLsbD i = (decide (i < w) && x.getLsbD (8 * (w / 8 - 1 - i / 8) + i % 8)) := by
  simp [revb]

/-- Bit `i` of the byte-wise image lies in the image of its own byte. -/
@[simp] theorem getLsbD_mapBytes {w : Nat} (f : Byte → Byte) (x : BitVec w) (i : Nat) :
    (mapBytes f x).getLsbD i = (decide (i < w) && (f (byteAt x (i / 8))).getLsbD (i % 8)) := by
  simp [mapBytes]

end Sys2Proof.Machine
end

