-- ==== Sys2Proof/Laws/State.lean ====
section
/-! SUPPORT. One lemma per field, or output, per update of State. -/

namespace Sys2Proof.Machine

section Sample

variable (o : Outputs) (s : State)

@[simp] theorem State.sample_ctl : (s.sample o).ctl = s.ctl := rfl
@[simp] theorem State.sample_a : (s.sample o).a = s.a := rfl
@[simp] theorem State.sample_k : (s.sample o).k = s.k := rfl
@[simp] theorem State.sample_sampled : (s.sample o).sampled = some o := rfl
@[simp] theorem State.sample_nativeW : (s.sample o).nativeW = s.nativeW := rfl
@[simp] theorem State.sample_uintSize : (s.sample o).uintSize = s.uintSize := rfl
@[simp] theorem State.sample_ill : (s.sample o).ill = s.ill := rfl
@[simp] theorem State.sample_inputs : (s.sample o).inputs = s.inputs := rfl
@[simp] theorem State.sample_driven : (s.sample o).driven = s.driven := rfl
@[simp] theorem operand_sample (w : Nat) : operand w (s.sample o) = operand w s := rfl
@[simp] theorem amount_sample : amount (s.sample o) = amount s := rfl

/-- The last sample alone stays. -/
@[simp] theorem State.sample_sample (o' : Outputs) : (s.sample o).sample o' = s.sample o' := rfl

end Sample

section Present

variable (p : Inputs) (s : State)

@[simp] theorem State.present_ctl : (s.present p).ctl = p.ctl := rfl
@[simp] theorem State.present_a : (s.present p).a = p.a := rfl
@[simp] theorem State.present_k : (s.present p).k = p.k := rfl
@[simp] theorem State.present_sampled : (s.present p).sampled = none := rfl
@[simp] theorem State.present_nativeW : (s.present p).nativeW = s.nativeW := rfl
@[simp] theorem State.present_uintSize : (s.present p).uintSize = s.uintSize := rfl
@[simp] theorem State.present_ill : (s.present p).ill = illOf p.ctl := rfl
@[simp] theorem State.present_inputs : (s.present p).inputs = p := rfl
@[simp] theorem State.present_driven : (s.present p).driven = outputs p := rfl
@[simp] theorem operand_present (w : Nat) : operand w (s.present p) = p.a.setWidth w := rfl
@[simp] theorem amount_present : amount (s.present p) = p.k.toInt := rfl
@[simp] theorem State.present_present (q : Inputs) : (s.present q).present p = s.present p := rfl

end Present

section FetchWord

variable (s : State) (nbits w : Nat)

@[simp] theorem State.withFetchWord_ctl : (s.withFetchWord nbits w).ctl = tableSelect nbits w := rfl
@[simp] theorem State.withFetchWord_a : (s.withFetchWord nbits w).a = s.a := rfl
@[simp] theorem State.withFetchWord_k : (s.withFetchWord nbits w).k = s.k := rfl
@[simp] theorem State.withFetchWord_sampled : (s.withFetchWord nbits w).sampled = none := rfl
@[simp] theorem State.withFetchWord_nativeW : (s.withFetchWord nbits w).nativeW = s.nativeW := rfl
@[simp] theorem State.withFetchWord_uintSize : (s.withFetchWord nbits w).uintSize = s.uintSize := rfl
@[simp] theorem State.withFetchWord_ill : (s.withFetchWord nbits w).ill = illOf (tableSelect nbits w) := rfl

end FetchWord

section PowerUp

variable (n : NativeWidth)

@[simp] theorem State.powerUp_ctl : (State.powerUp n).ctl = 0x00#8 := rfl
@[simp] theorem State.powerUp_a : (State.powerUp n).a = 0#64 := rfl
@[simp] theorem State.powerUp_k : (State.powerUp n).k = 0#64 := rfl
@[simp] theorem State.powerUp_sampled : (State.powerUp n).sampled = none := rfl
@[simp] theorem State.powerUp_nativeW : (State.powerUp n).nativeW = n := rfl

end PowerUp

end Sys2Proof.Machine
end

