-- ==== Sys2Proof/Laws/Ops.lean ====
section
/-! SUPPORT. What the shared operations can do, said once, and what follows for every meaning. -/

namespace Sys2Proof.Machine

/-- A count is driven exactly as R69 says: it always completes, and only the sample changes. -/
theorem driveCount_next_iff {c : Nat} {s t : State} :
    driveCount c s = .next t ↔ t = s.sample { res := widenCount c, ill := 0#1 } :=
  ⟨fun h => by injection h with h; exact h.symm, fun h => h ▸ rfl⟩

/-- A value is driven exactly as R69 says: it always completes, and only the sample changes. -/
theorem driveValue_next_iff {w : Nat} {v : BitVec w} {s t : State} :
    driveValue v s = .next t ↔ t = s.sample { res := widenValue v, ill := 0#1 } :=
  ⟨fun h => by injection h with h; exact h.symm, fun h => h ▸ rfl⟩

/-- The abnormal outcome is never a next state. -/
theorem raiseIllegalSelect_ne_next {s t : State} : raiseIllegalSelect s ≠ .next t := nofun

/-- Every evaluation of an instruction completes, gives the client one result with `ill = 0` to sample, and does nothing
else (R81). -/
theorem exec_samples (i : Instr) (s : State) : ∃ r, exec i s = .next (s.sample { res := r, ill := 0#1 }) := by
  cases i <;> exact ⟨_, rfl⟩

/-- A rejected `ctl` ends the step in the fault that names it (R82). -/
theorem step_of_rejected {s : State} {r : Reject} (h : decode s.ctl = .error r) :
    step s = .fault (.illegalSelect s.ctl) := by
  simp only [step, h, raiseIllegalSelect]

/-- What a client sees of one evaluation, said once: it completes with `ill = 0`, or its `ctl` is rejected and the run of
its client is over. -/
theorem serveOne_cases (p : Inputs) (s : State) :
    (∃ i r, decode p.ctl = .ok i ∧ exec i (s.present p) = .next ((s.present p).sample { res := r, ill := 0#1 }) ∧
      serveOne p s = (some (.sampled { res := r, ill := 0#1 }), (s.present p).sample { res := r, ill := 0#1 })) ∨
    (∃ e, decode p.ctl = .error e ∧
      serveOne p s = (some (.ended (.fault (.illegalSelect p.ctl))), s.present p)) := by
  cases h : decode p.ctl with
  | ok i =>
    obtain ⟨r, hr⟩ := exec_samples i (s.present p)
    exact .inl ⟨i, r, rfl, hr, by simp [serveOne, evaluate, step, h, hr]⟩
  | error e => exact .inr ⟨e, rfl, by simp [serveOne, evaluate, step, h, raiseIllegalSelect]⟩

end Sys2Proof.Machine
end

