-- ==== Sys2Proof/Laws/PerInstr.lean ====
section
/-! SUPPORT. Statements about every instruction, made constructor by constructor. -/

namespace Sys2Proof.Laws.EncodingFields

/-- R60 to R63, R73: the encoding of the instruction has `RSV = 000`, its family's `FAM` code and its width's `WSZ` code. -/
def Statement (i : Instr) : Prop :=
  ∀ n : NativeWidth, ctlRsv (encode n i) = 0b000#3 ∧ ctlFam (encode n i) = codeOfFamily (instrFamily i) ∧
    ctlWsz (encode n i) = codeOfWidth (instrWidth n i)

theorem leadingZeros8 : Statement .leadingZeros8 := fun n => by cases n <;> decide
theorem leadingZeros16 : Statement .leadingZeros16 := fun n => by cases n <;> decide
theorem leadingZeros32 : Statement .leadingZeros32 := fun n => by cases n <;> decide
theorem leadingZeros64 : Statement .leadingZeros64 := fun n => by cases n <;> decide
theorem trailingZeros8 : Statement .trailingZeros8 := fun n => by cases n <;> decide
theorem trailingZeros16 : Statement .trailingZeros16 := fun n => by cases n <;> decide
theorem trailingZeros32 : Statement .trailingZeros32 := fun n => by cases n <;> decide
theorem trailingZeros64 : Statement .trailingZeros64 := fun n => by cases n <;> decide
theorem onesCount8 : Statement .onesCount8 := fun n => by cases n <;> decide
theorem onesCount16 : Statement .onesCount16 := fun n => by cases n <;> decide
theorem onesCount32 : Statement .onesCount32 := fun n => by cases n <;> decide
theorem onesCount64 : Statement .onesCount64 := fun n => by cases n <;> decide
theorem rotateLeft8 : Statement .rotateLeft8 := fun n => by cases n <;> decide
theorem rotateLeft16 : Statement .rotateLeft16 := fun n => by cases n <;> decide
theorem rotateLeft32 : Statement .rotateLeft32 := fun n => by cases n <;> decide
theorem rotateLeft64 : Statement .rotateLeft64 := fun n => by cases n <;> decide
theorem rotateRight8 : Statement .rotateRight8 := fun n => by cases n <;> decide
theorem rotateRight16 : Statement .rotateRight16 := fun n => by cases n <;> decide
theorem rotateRight32 : Statement .rotateRight32 := fun n => by cases n <;> decide
theorem rotateRight64 : Statement .rotateRight64 := fun n => by cases n <;> decide
theorem reverse8 : Statement .reverse8 := fun n => by cases n <;> decide
theorem reverse16 : Statement .reverse16 := fun n => by cases n <;> decide
theorem reverse32 : Statement .reverse32 := fun n => by cases n <;> decide
theorem reverse64 : Statement .reverse64 := fun n => by cases n <;> decide
theorem reverseBytes16 : Statement .reverseBytes16 := fun n => by cases n <;> decide
theorem reverseBytes32 : Statement .reverseBytes32 := fun n => by cases n <;> decide
theorem reverseBytes64 : Statement .reverseBytes64 := fun n => by cases n <;> decide
theorem len8 : Statement .len8 := fun n => by cases n <;> decide
theorem len16 : Statement .len16 := fun n => by cases n <;> decide
theorem len32 : Statement .len32 := fun n => by cases n <;> decide
theorem len64 : Statement .len64 := fun n => by cases n <;> decide
theorem leadingZeros : Statement .leadingZeros := fun n => by cases n <;> decide
theorem trailingZeros : Statement .trailingZeros := fun n => by cases n <;> decide
theorem onesCount : Statement .onesCount := fun n => by cases n <;> decide
theorem rotateLeft : Statement .rotateLeft := fun n => by cases n <;> decide
theorem rotateRight : Statement .rotateRight := fun n => by cases n <;> decide
theorem reverse : Statement .reverse := fun n => by cases n <;> decide
theorem reverseBytes : Statement .reverseBytes := fun n => by cases n <;> decide
theorem len : Statement .len := fun n => by cases n <;> decide

end Sys2Proof.Laws.EncodingFields
end

