-- ==== Sys2Proof/Tests/Slice0.lean ====
section
/-! SUPPORT. The model's own tests. Expected results are the spec's: the words of spec/30_encoding.md §1 and §2, written out
bit by bit, and the vectors of spec/95_test_vectors.md. The last section shows, for every statement that has hypotheses,
a state and operands that meet them all. -/

open Sys2Proof Sys2Proof.Machine Sys2Proof.Safety

namespace Sys2Proof.Tests

/-- A BCU of width `n` with the given inputs on its ports. Nothing has been sampled of them. -/
def ports (n : NativeWidth) (ctl : Select) (a k : Word) : State :=
  { ctl := ctl, a := a, k := k, sampled := none, nativeW := n }

/-- What the client has sampled in an outcome, if it is a next state. -/
def sampledIn : Host.Outcome State Fault Refusal → Option (BitVec 64 × BitVec 1)
  | .next t => t.sampled.map fun o => (o.res, o.ill)
  | _ => none

/-- The `ctl` a fault carries. -/
def faulted : Host.Outcome State Fault Refusal → Option (BitVec 8)
  | .fault (.illegalSelect c) => some c
  | _ => none

/-! Well-formedness: its one check refuses each native pseudo-instruction, and no select. -/

theorem test_wf_refuses_native :
    [Instr.leadingZeros, Instr.trailingZeros, Instr.onesCount, Instr.rotateLeft, Instr.rotateRight, Instr.reverse, Instr.reverseBytes, Instr.len].all (fun i => !i.wf) = true := by decide

theorem test_wf_accepts_selects :
    [Instr.leadingZeros8, Instr.trailingZeros8, Instr.onesCount8, Instr.rotateLeft8, Instr.rotateRight8, Instr.reverse8, Instr.reverseBytes16, Instr.len16].all (fun i => i.wf) = true := by decide

/-! Decoding: each row's word, `RSV` `WSZ` `FAM`. -/

theorem test_decode_leadingZeros :
    decode 0b000_00_000#8 = .ok .leadingZeros8 ∧
    decode 0b000_01_000#8 = .ok .leadingZeros16 ∧
    decode 0b000_10_000#8 = .ok .leadingZeros32 ∧
    decode 0b000_11_000#8 = .ok .leadingZeros64 := by decide

theorem test_decode_trailingZeros :
    decode 0b000_00_001#8 = .ok .trailingZeros8 ∧
    decode 0b000_01_001#8 = .ok .trailingZeros16 ∧
    decode 0b000_10_001#8 = .ok .trailingZeros32 ∧
    decode 0b000_11_001#8 = .ok .trailingZeros64 := by decide

theorem test_decode_onesCount :
    decode 0b000_00_010#8 = .ok .onesCount8 ∧
    decode 0b000_01_010#8 = .ok .onesCount16 ∧
    decode 0b000_10_010#8 = .ok .onesCount32 ∧
    decode 0b000_11_010#8 = .ok .onesCount64 := by decide

theorem test_decode_rotateLeft :
    decode 0b000_00_011#8 = .ok .rotateLeft8 ∧
    decode 0b000_01_011#8 = .ok .rotateLeft16 ∧
    decode 0b000_10_011#8 = .ok .rotateLeft32 ∧
    decode 0b000_11_011#8 = .ok .rotateLeft64 := by decide

theorem test_decode_rotateRight :
    decode 0b000_00_100#8 = .ok .rotateRight8 ∧
    decode 0b000_01_100#8 = .ok .rotateRight16 ∧
    decode 0b000_10_100#8 = .ok .rotateRight32 ∧
    decode 0b000_11_100#8 = .ok .rotateRight64 := by decide

theorem test_decode_reverse :
    decode 0b000_00_101#8 = .ok .reverse8 ∧
    decode 0b000_01_101#8 = .ok .reverse16 ∧
    decode 0b000_10_101#8 = .ok .reverse32 ∧
    decode 0b000_11_101#8 = .ok .reverse64 := by decide

theorem test_decode_reverseBytes :
    decode 0b000_01_110#8 = .ok .reverseBytes16 ∧
    decode 0b000_10_110#8 = .ok .reverseBytes32 ∧
    decode 0b000_11_110#8 = .ok .reverseBytes64 := by decide

theorem test_decode_len :
    decode 0b000_00_111#8 = .ok .len8 ∧
    decode 0b000_01_111#8 = .ok .len16 ∧
    decode 0b000_10_111#8 = .ok .len32 ∧
    decode 0b000_11_111#8 = .ok .len64 := by decide

theorem test_decode_rejects :
    decode 0b000_00_110#8 = .error .reverseBytes8 ∧ decode 0b001_00_000#8 = .error .reservedBits ∧
    decode 0b010_00_000#8 = .error .reservedBits ∧ decode 0b100_00_000#8 = .error .reservedBits ∧
    decode 0b001_00_110#8 = .error .reservedBits ∧ decode 0b001_11_111#8 = .error .reservedBits ∧
    decode 0b111_11_111#8 = .error .reservedBits := by decide

theorem test_table_word :
    decodeTableWord 8 0x1B = some .rotateLeft64 ∧ decodeTableWord 8 0x06 = none ∧ decodeTableWord 16 0x1B = none := by
  decide

theorem test_encode_native :
    encode .w32 .leadingZeros = 0x10#8 ∧ encode .w64 .leadingZeros = 0x18#8 ∧
    encode .w32 .reverseBytes = 0x16#8 ∧ encode .w64 .reverseBytes = 0x1E#8 := by decide

/-! One step of each select (95_test_vectors.md §2.1 to §2.8). -/

theorem test_leadingZeros8_a :
    sampledIn (step (ports .w32 0x00#8 0x10#64 0x0#64)) = some (0x3#64, 0#1) := by decide

theorem test_leadingZeros8_b :
    sampledIn (step (ports .w64 0x00#8 0xFFFFFFFFFFFFFF00#64 0x0#64)) = some (0x8#64, 0#1) := by decide

theorem test_leadingZeros16_a :
    sampledIn (step (ports .w32 0x08#8 0xF00#64 0x0#64)) = some (0x4#64, 0#1) := by decide

theorem test_leadingZeros16_b :
    sampledIn (step (ports .w64 0x08#8 0x0#64 0x0#64)) = some (0x10#64, 0#1) := by decide

theorem test_leadingZeros32_a :
    sampledIn (step (ports .w32 0x10#8 0xF0000#64 0x0#64)) = some (0xC#64, 0#1) := by decide

theorem test_leadingZeros32_b :
    sampledIn (step (ports .w64 0x10#8 0x1234567800000000#64 0x0#64)) = some (0x20#64, 0#1) := by decide

theorem test_leadingZeros64_a :
    sampledIn (step (ports .w32 0x18#8 0xF00000000#64 0x0#64)) = some (0x1C#64, 0#1) := by decide +kernel

theorem test_leadingZeros64_b :
    sampledIn (step (ports .w64 0x18#8 0x0#64 0x0#64)) = some (0x40#64, 0#1) := by decide +kernel

theorem test_trailingZeros8_a :
    sampledIn (step (ports .w32 0x01#8 0xF0#64 0x0#64)) = some (0x4#64, 0#1) := by decide

theorem test_trailingZeros8_b :
    sampledIn (step (ports .w64 0x01#8 0xFFFFFFFFFFFFFF00#64 0x0#64)) = some (0x8#64, 0#1) := by decide

theorem test_trailingZeros16_a :
    sampledIn (step (ports .w32 0x09#8 0xF00#64 0x0#64)) = some (0x8#64, 0#1) := by decide

theorem test_trailingZeros16_b :
    sampledIn (step (ports .w64 0x09#8 0x0#64 0x0#64)) = some (0x10#64, 0#1) := by decide

theorem test_trailingZeros32_a :
    sampledIn (step (ports .w32 0x11#8 0x10000000#64 0x0#64)) = some (0x1C#64, 0#1) := by decide

theorem test_trailingZeros32_b :
    sampledIn (step (ports .w64 0x11#8 0x1234567800000000#64 0x0#64)) = some (0x20#64, 0#1) := by decide

theorem test_trailingZeros64_a :
    sampledIn (step (ports .w32 0x19#8 0xF00000000#64 0x0#64)) = some (0x20#64, 0#1) := by decide +kernel

theorem test_trailingZeros64_b :
    sampledIn (step (ports .w64 0x19#8 0x8000000000000000#64 0x0#64)) = some (0x3F#64, 0#1) := by decide +kernel

theorem test_onesCount8_a :
    sampledIn (step (ports .w32 0x02#8 0xA5#64 0x0#64)) = some (0x4#64, 0#1) := by decide

theorem test_onesCount8_b :
    sampledIn (step (ports .w64 0x02#8 0xFFFFFFFFFFFFFF00#64 0x0#64)) = some (0x0#64, 0#1) := by decide

theorem test_onesCount16_a :
    sampledIn (step (ports .w32 0x0A#8 0xA5A5#64 0x0#64)) = some (0x8#64, 0#1) := by decide

theorem test_onesCount16_b :
    sampledIn (step (ports .w64 0x0A#8 0xFFFF#64 0x0#64)) = some (0x10#64, 0#1) := by decide

theorem test_onesCount32_a :
    sampledIn (step (ports .w32 0x12#8 0xA5A5A5A5#64 0x0#64)) = some (0x10#64, 0#1) := by decide

theorem test_onesCount32_b :
    sampledIn (step (ports .w64 0x12#8 0x1234567800000000#64 0x0#64)) = some (0x0#64, 0#1) := by decide

theorem test_onesCount64_a :
    sampledIn (step (ports .w32 0x1A#8 0xA5A5A5A5A5A5A5A5#64 0x0#64)) = some (0x20#64, 0#1) := by decide +kernel

theorem test_onesCount64_b :
    sampledIn (step (ports .w64 0x1A#8 0xFFFFFFFFFFFFFFFF#64 0x0#64)) = some (0x40#64, 0#1) := by decide +kernel

theorem test_rotateLeft8_a :
    sampledIn (step (ports .w32 0x03#8 0x96#64 0x1D#64)) = some (0xD2#64, 0#1) := by decide

theorem test_rotateLeft8_b :
    sampledIn (step (ports .w64 0x03#8 0x96#64 0x8000000000000000#64)) = some (0x96#64, 0#1) := by decide

theorem test_rotateLeft16_a :
    sampledIn (step (ports .w32 0x0B#8 0xCDEF#64 0x35#64)) = some (0xBDF9#64, 0#1) := by decide

theorem test_rotateLeft16_b :
    sampledIn (step (ports .w64 0x0B#8 0xCDEF#64 0xFFFFFFFFFFFFFFFF#64)) = some (0xE6F7#64, 0#1) := by decide

theorem test_rotateLeft32_a :
    sampledIn (step (ports .w32 0x13#8 0x89ABCDEF#64 0x65#64)) = some (0x3579BDF1#64, 0#1) := by decide

theorem test_rotateLeft32_b :
    sampledIn (step (ports .w64 0x13#8 0x89ABCDEF#64 0x7FFFFFFFFFFFFFFF#64)) = some (0xC4D5E6F7#64, 0#1) := by decide

theorem test_rotateLeft64_a :
    sampledIn (step (ports .w32 0x1B#8 0x123456789ABCDEF#64 0xC5#64)) = some (0x2468ACF13579BDE0#64, 0#1) := by decide

theorem test_rotateLeft64_b :
    sampledIn (step (ports .w64 0x1B#8 0x123456789ABCDEF#64 0x40#64)) = some (0x123456789ABCDEF#64, 0#1) := by decide

theorem test_rotateRight8_a :
    sampledIn (step (ports .w32 0x04#8 0x96#64 0x1D#64)) = some (0xB4#64, 0#1) := by decide

theorem test_rotateRight8_b :
    sampledIn (step (ports .w64 0x04#8 0x96#64 0xFFFFFFFFFFFFFFFF#64)) = some (0x2D#64, 0#1) := by decide

theorem test_rotateRight16_a :
    sampledIn (step (ports .w32 0x0C#8 0xCDEF#64 0x35#64)) = some (0x7E6F#64, 0#1) := by decide

theorem test_rotateRight16_b :
    sampledIn (step (ports .w64 0x0C#8 0xCDEF#64 0xFFFFFFFFFFFFFFF0#64)) = some (0xCDEF#64, 0#1) := by decide

theorem test_rotateRight32_a :
    sampledIn (step (ports .w32 0x14#8 0x89ABCDEF#64 0x65#64)) = some (0x7C4D5E6F#64, 0#1) := by decide

theorem test_rotateRight32_b :
    sampledIn (step (ports .w64 0x14#8 0x89ABCDEF#64 0xFFFFFFFFFFFFFFFF#64)) = some (0x13579BDF#64, 0#1) := by decide

theorem test_rotateRight64_a :
    sampledIn (step (ports .w32 0x1C#8 0x123456789ABCDEF#64 0xC5#64)) = some (0x78091A2B3C4D5E6F#64, 0#1) := by decide

theorem test_rotateRight64_b :
    sampledIn (step (ports .w64 0x1C#8 0x123456789ABCDEF#64 0x8000000000000000#64)) = some (0x123456789ABCDEF#64, 0#1) := by decide

theorem test_reverse8_a :
    sampledIn (step (ports .w32 0x05#8 0xEF#64 0x0#64)) = some (0xF7#64, 0#1) := by decide

theorem test_reverse8_b :
    sampledIn (step (ports .w64 0x05#8 0xFFFFFFFFFFFFFF01#64 0x0#64)) = some (0x80#64, 0#1) := by decide

theorem test_reverse16_a :
    sampledIn (step (ports .w32 0x0D#8 0xCDEF#64 0x0#64)) = some (0xF7B3#64, 0#1) := by decide

theorem test_reverse16_b :
    sampledIn (step (ports .w64 0x0D#8 0x1#64 0x0#64)) = some (0x8000#64, 0#1) := by decide

theorem test_reverse32_a :
    sampledIn (step (ports .w32 0x15#8 0x89ABCDEF#64 0x0#64)) = some (0xF7B3D591#64, 0#1) := by decide

theorem test_reverse32_b :
    sampledIn (step (ports .w64 0x15#8 0x80000000#64 0x0#64)) = some (0x1#64, 0#1) := by decide

theorem test_reverse64_a :
    sampledIn (step (ports .w32 0x1D#8 0x123456789ABCDEF#64 0x0#64)) = some (0xF7B3D591E6A2C480#64, 0#1) := by decide +kernel

theorem test_reverse64_b :
    sampledIn (step (ports .w64 0x1D#8 0x1#64 0x0#64)) = some (0x8000000000000000#64, 0#1) := by decide +kernel

theorem test_reverseBytes16_a :
    sampledIn (step (ports .w32 0x0E#8 0x102#64 0x0#64)) = some (0x201#64, 0#1) := by decide

theorem test_reverseBytes16_b :
    sampledIn (step (ports .w64 0x0E#8 0xDEADBEEF00001234#64 0x0#64)) = some (0x3412#64, 0#1) := by decide

theorem test_reverseBytes32_a :
    sampledIn (step (ports .w32 0x16#8 0x89ABCDEF#64 0x0#64)) = some (0xEFCDAB89#64, 0#1) := by decide

theorem test_reverseBytes32_b :
    sampledIn (step (ports .w64 0x16#8 0x102#64 0x0#64)) = some (0x2010000#64, 0#1) := by decide

theorem test_reverseBytes64_a :
    sampledIn (step (ports .w32 0x1E#8 0x123456789ABCDEF#64 0x0#64)) = some (0xEFCDAB8967452301#64, 0#1) := by decide +kernel

theorem test_reverseBytes64_b :
    sampledIn (step (ports .w64 0x1E#8 0xFF#64 0x0#64)) = some (0xFF00000000000000#64, 0#1) := by decide +kernel

theorem test_len8_a :
    sampledIn (step (ports .w32 0x07#8 0xF0#64 0x0#64)) = some (0x8#64, 0#1) := by decide

theorem test_len8_b :
    sampledIn (step (ports .w64 0x07#8 0xFFFFFFFFFFFFFF00#64 0x0#64)) = some (0x0#64, 0#1) := by decide

theorem test_len16_a :
    sampledIn (step (ports .w32 0x0F#8 0x1000#64 0x0#64)) = some (0xD#64, 0#1) := by decide

theorem test_len16_b :
    sampledIn (step (ports .w64 0x0F#8 0x0#64 0x0#64)) = some (0x0#64, 0#1) := by decide

theorem test_len32_a :
    sampledIn (step (ports .w32 0x17#8 0xF0000#64 0x0#64)) = some (0x14#64, 0#1) := by decide

theorem test_len32_b :
    sampledIn (step (ports .w64 0x17#8 0x1234567800000000#64 0x0#64)) = some (0x0#64, 0#1) := by decide

theorem test_len64_a :
    sampledIn (step (ports .w32 0x1F#8 0xF00000000#64 0x0#64)) = some (0x24#64, 0#1) := by decide +kernel

theorem test_len64_b :
    sampledIn (step (ports .w64 0x1F#8 0xFFFFFFFFFFFFFFFF#64 0x0#64)) = some (0x40#64, 0#1) := by decide +kernel

/-! The native pseudo-instructions on both builds (95_test_vectors.md §2.10). -/

theorem test_leadingZeros_native32 :
    sampledIn (exec .leadingZeros (ports .w32 0x00#8 0x1#64 0x0#64)) = some (0x1F#64, 0#1) := by decide

theorem test_leadingZeros_native64 :
    sampledIn (exec .leadingZeros (ports .w64 0x00#8 0x1#64 0x0#64)) = some (0x3F#64, 0#1) := by decide +kernel

theorem test_trailingZeros_native32 :
    sampledIn (exec .trailingZeros (ports .w32 0x00#8 0x100000000#64 0x0#64)) = some (0x20#64, 0#1) := by decide

theorem test_trailingZeros_native64 :
    sampledIn (exec .trailingZeros (ports .w64 0x00#8 0x100000000#64 0x0#64)) = some (0x20#64, 0#1) := by decide +kernel

theorem test_onesCount_native32 :
    sampledIn (exec .onesCount (ports .w32 0x00#8 0xFFFFFFFFFFFFFFFF#64 0x0#64)) = some (0x20#64, 0#1) := by decide

theorem test_onesCount_native64 :
    sampledIn (exec .onesCount (ports .w64 0x00#8 0xFFFFFFFFFFFFFFFF#64 0x0#64)) = some (0x40#64, 0#1) := by decide +kernel

theorem test_rotateLeft_native32 :
    sampledIn (exec .rotateLeft (ports .w32 0x00#8 0x80000000#64 0x1#64)) = some (0x1#64, 0#1) := by decide

theorem test_rotateLeft_native64 :
    sampledIn (exec .rotateLeft (ports .w64 0x00#8 0x80000000#64 0x1#64)) = some (0x100000000#64, 0#1) := by decide +kernel

theorem test_rotateRight_native32 :
    sampledIn (exec .rotateRight (ports .w32 0x00#8 0x1#64 0x1#64)) = some (0x80000000#64, 0#1) := by decide

theorem test_rotateRight_native64 :
    sampledIn (exec .rotateRight (ports .w64 0x00#8 0x1#64 0x1#64)) = some (0x8000000000000000#64, 0#1) := by decide +kernel

theorem test_reverse_native32 :
    sampledIn (exec .reverse (ports .w32 0x00#8 0x1#64 0x0#64)) = some (0x80000000#64, 0#1) := by decide

theorem test_reverse_native64 :
    sampledIn (exec .reverse (ports .w64 0x00#8 0x1#64 0x0#64)) = some (0x8000000000000000#64, 0#1) := by decide +kernel

theorem test_reverseBytes_native32 :
    sampledIn (exec .reverseBytes (ports .w32 0x00#8 0x11223344#64 0x0#64)) = some (0x44332211#64, 0#1) := by decide

theorem test_reverseBytes_native64 :
    sampledIn (exec .reverseBytes (ports .w64 0x00#8 0x11223344#64 0x0#64)) = some (0x4433221100000000#64, 0#1) := by decide +kernel

theorem test_len_native32 :
    sampledIn (exec .len (ports .w32 0x00#8 0xFFFFFFFFFFFFFFFF#64 0x0#64)) = some (0x20#64, 0#1) := by decide

theorem test_len_native64 :
    sampledIn (exec .len (ports .w64 0x00#8 0xFFFFFFFFFFFFFFFF#64 0x0#64)) = some (0x40#64, 0#1) := by decide +kernel

/-! Illegal selects (95_test_vectors.md §2.9): the fault carries `ctl`, and the BCU drives `res = 0` and `ill = 1`. -/

theorem test_illegal_faults :
    faulted (step (ports .w32 0x06#8 0x1234#64 3#64)) = some 0x06#8 ∧
    faulted (step (ports .w64 0x3F#8 0x1234#64 3#64)) = some 0x3F#8 := by decide

theorem test_illegal_outputs :
    outputs { ctl := 0x26#8, a := 0x1234#64, k := 3#64 } = { res := 0#64, ill := 1#1 } := by decide

/-- The output `ill` follows `ctl` with no evaluation (10_state.md R29). -/
theorem test_ill_follows_ctl :
    ((State.powerUp .w64).withFetchWord 8 0x06).ill = 1#1 ∧ ((State.powerUp .w64).withFetchWord 8 0x1F).ill = 0#1 := by
  decide

theorem test_uint_size :
    (State.powerUp .w32).uintSize = 0b0100000#7 ∧ (State.powerUp .w64).uintSize = 0b1000000#7 := by decide

/-! The internal blocks (95_test_vectors.md §2.11). -/

theorem test_lut :
    [0x00#8, 0x01#8, 0x10#8, 0x7F#8, 0x80#8].map (fun i => (lutLz8 i).toNat) = [8, 7, 3, 1, 0] ∧
    [0x00#8, 0x01#8, 0x10#8, 0x80#8, 0xA0#8].map (fun i => (lutTz8 i).toNat) = [8, 0, 4, 7, 5] ∧
    [0x00#8, 0x0F#8, 0xA5#8, 0xFF#8].map (fun i => (lutPop8 i).toNat) = [0, 4, 4, 8] ∧
    [0x01#8, 0x0F#8, 0x12#8, 0xA5#8].map lutRev8 = [0x80#8, 0xF0#8, 0x48#8, 0xA5#8] := by decide

theorem test_byte_scans : lzScan 0x000F0000#32 = 12 ∧ tzScan 0x0F00#16 = 8 := by decide

theorem test_splits : lzSplit 1#64 = 63 ∧ tzSplit 0x0000000F00000000#64 = 32 := by decide

theorem test_swar :
    swarPairs 0xA5#8 = 0x55#8 ∧ swarNibbles 0x55#8 = 0x22#8 ∧ swarBytes 0x22#8 = 0x04#8 ∧
    swarPairs 0xFFFF#16 = 0xAAAA#16 ∧ swarNibbles 0xAAAA#16 = 0x4444#16 ∧ swarBytes 0x4444#16 = 0x0808#16 ∧
    popSwar 0xFFFF#16 = 16 := by decide

theorem test_db_index_example :
    (deBruijnIndex (default : DeBruijnConstant).val 32).toNat = 45 ∧
    (deBruijnIndex (default : DeBruijnConstant).val 63).toNat = 32 := by decide

/-! Witnesses: the hypotheses of each statement, met together. -/

theorem witness_IllegalSelectsAreRejectedExactly :
    isIllegal 0x06#8 = true ∧ (0x06#8).extractLsb' 5 3 = 0b000#3 := by decide

theorem witness_DecodeOfEncodeIsTheInstruction : Instr.len64.wf = true := by decide

theorem witness_EncodeOfDecodeIsTheSelect : decode 0x1F#8 = .ok .len64 := by decide

theorem witness_OpcodeMapIsTheDecoder : decode 0x0E#8 = .ok .reverseBytes16 := by decide

theorem witness_NativeSelectsExpand : Instr.reverseBytes.wf = false := by decide

theorem witness_StepRunsTheDecodedInstruction :
    decode (ports .w32 0x1B#8 5#64 3#64).ctl = .ok .rotateLeft64 := by decide

theorem witness_StepFaultsExactlyOnIllegalSelects :
    isIllegal (ports .w32 0x1F#8 5#64 3#64).ctl = false ∧ isIllegal (ports .w32 0x20#8 5#64 3#64).ctl = true := by
  decide

theorem witness_IllegalSelectDrivesZero :
    isIllegal ({ ctl := 0xFF#8, a := 5#64, k := 3#64 } : Inputs).ctl = true := by decide

theorem witness_LegalSelectAfterIllegalIsNormal :
    isIllegal (ports .w64 0x06#8 5#64 3#64).ctl = true ∧
    isIllegal ({ ctl := 0x07#8, a := 5#64, k := 3#64 } : Inputs).ctl = false := by decide

/-- A state that is settled and not the reset state, and its next state. -/
def settled : State := { ctl := 0x02#8, a := 0xFF#64, k := 9#64, sampled := some { res := 8#64, ill := 0#1 },
                           nativeW := .w32 }

theorem witness_EveryStepKeepsTheBcuInvariant : BcuInv .w32 settled ∧ step settled = .next settled :=
  ⟨⟨rfl, by decide, fun o h => by injection h with h; subst h; decide⟩, rfl⟩

theorem witness_EvaluationIsIdempotent :
    step (ports .w64 0x01#8 0x80#64 0#64) =
      .next ((ports .w64 0x01#8 0x80#64 0#64).sample { res := 7#64, ill := 0#1 }) := rfl

/-- Two evaluations with different results. -/
def twoInputs : List Inputs := [{ ctl := 0x02#8, a := 0xFF#64, k := 0#64 }, { ctl := 0x07#8, a := 0x10#64, k := 0#64 }]

theorem test_session :
    (session twoInputs settled).answers = [.sampled { res := 8#64, ill := 0#1 }, .sampled { res := 5#64, ill := 0#1 }] := rfl

theorem witness_ResultIgnoresUnselectedBits :
    (ports .w32 0x03#8 0x101#64 9#64).nativeW = (ports .w32 0x03#8 0x201#64 1#64).nativeW ∧
    (ports .w32 0x03#8 0x101#64 9#64).a.setWidth (widthBits (instrWidth .w32 .rotateLeft8)) =
      (ports .w32 0x03#8 0x201#64 1#64).a.setWidth (widthBits (instrWidth .w32 .rotateLeft8)) ∧
    readsAmount .rotateLeft8 = true ∧
    (9#64).toNat % widthBits (instrWidth .w32 .rotateLeft8) = (1#64).toNat % widthBits (instrWidth .w32 .rotateLeft8) := by
  decide

theorem witness_StepDependsOnlyOnTheSelectedPorts :
    (ports .w32 0x0A#8 0x10101#64 9#64).ctl = (ports .w64 0x0A#8 0x20101#64 1#64).ctl ∧
    decode (ports .w32 0x0A#8 0x10101#64 9#64).ctl = .ok .onesCount16 ∧
    (0x10101#64).setWidth (widthBits (instrWidth .w32 .onesCount16)) =
      (0x20101#64).setWidth (widthBits (instrWidth .w32 .onesCount16)) ∧
    readsAmount .onesCount16 = false ∧ readsAmount .rotateLeft64 = true ∧ decode 0x1B#8 = .ok .rotateLeft64 ∧
    isIllegal (ports .w32 0x06#8 1#64 1#64).ctl = true := by decide

theorem witness_ResultFitsItsWidth : isCounting .len = true ∧ isCounting .reverse16 = false := by decide

theorem witness_NativeDispatch : Instr.len.wf = false ∧ Instr.len8.wf = true := by decide

theorem witness_DeBruijnLookupFindsThePosition :
    ∃ b : DeBruijnConstant, 63 < 64 ∧ (dbIndexOf b (BitVec.ofNat 64 (2 ^ 63))).toNat = 63 :=
  ⟨{}, by decide, by decide⟩

theorem witness_DeBruijnPathIsTheReference : ∃ b : DeBruijnConstant, 8 ≤ 64 ∧ tzDeBruijn b 0x80#8 = 7 :=
  ⟨{}, by decide, by decide⟩

theorem witness_DeBruijnTableInvertsTheIndex :
    ∃ b : DeBruijnConstant, 63 < 64 ∧ (dbPos b (deBruijnIndex b.val 63)).toNat = 63 := ⟨{}, by decide, by decide⟩

theorem witness_ExampleDeBruijnConstantIsLegal :
    ∃ b : DeBruijnConstant, b.val = 0x03F79D71B4CA8B09#64 := ⟨{}, rfl⟩

theorem witness_ClearingLoopCountsTheOnes : 0xA0#8 ≠ 0#8 ∧ lsbIndex 0xA0#8 = 5 := by decide

theorem witness_WidthAdaptersShareOneEngine : 64 ≤ 64 ∧ 8 ≤ 8 := by decide

theorem witness_RotationLaws : 0 < 8 ∧ rol 0x96#8 29 = 0xD2#8 := by decide

theorem witness_RotationAmountOfAnyMagnitude : 6 ≤ 6 ∧ rotateAmount (2 ^ 6) (-1) = 63 := by decide

theorem witness_ReversalLaws : 7 < 8 ∧ rev (BitVec.ofNat 8 (2 ^ 7)) = BitVec.ofNat 8 (2 ^ (8 - 1 - 7)) := by decide

theorem witness_ResultsDependOnNoEarlierEvaluation : SafeRun twoInputs := by
  intro p hp
  rcases List.mem_cons.mp hp with rfl | hp
  · decide
  · rcases List.mem_singleton.mp hp with rfl
    decide

/-- An illegal select, driven after two evaluations that completed. -/
def illegalInputs : Inputs := { ctl := 0x06#8, a := 3#64, k := 1#64 }

theorem witness_SessionEndsAtTheFirstIllegalSelect :
    SafeRun twoInputs ∧ isIllegal illegalInputs.ctl = true ∧
    session (twoInputs ++ illegalInputs :: twoInputs) settled =
      { ports := settled.present illegalInputs
        answers := [.sampled { res := 8#64, ill := 0#1 }, .sampled { res := 5#64, ill := 0#1 },
                    .ended (.fault (.illegalSelect 0x06#8))] } :=
  ⟨witness_ResultsDependOnNoEarlierEvaluation, by decide, rfl⟩

/-- Client 1 makes the two evaluations. Client 2 makes one and then an illegal select between them, and one that is too
late. -/
def twoClients : List (Nat × Inputs) :=
  [(1, { ctl := 0x02#8, a := 0xFF#64, k := 0#64 }), (2, { ctl := 0x1B#8, a := 3#64, k := 1#64 }),
   (2, { ctl := 0x06#8, a := 3#64, k := 1#64 }), (1, { ctl := 0x07#8, a := 0x10#64, k := 0#64 }),
   (2, { ctl := 0x02#8, a := 1#64, k := 0#64 })]

theorem test_serve :
    ownAnswers 1 (serve twoClients [] settled) =
      [.sampled { res := 8#64, ill := 0#1 }, .sampled { res := 5#64, ill := 0#1 }] ∧
    ownAnswers 2 (serve twoClients [] settled) =
      [.sampled { res := 6#64, ill := 0#1 }, .ended (.fault (.illegalSelect 0x06#8))] := ⟨rfl, rfl⟩

theorem witness_IllIsTheFunctionOfCtl :
    settled.ctl = (ports .w64 0x02#8 1#64 1#64).ctl ∧ settled ≠ ports .w64 0x02#8 1#64 1#64 := by decide

theorem witness_ChangedInputsHaveNoResult :
    evaluate { ctl := 0x07#8, a := 0x10#64, k := 0#64 } settled =
      .next { ctl := 0x07#8, a := 0x10#64, k := 0#64, sampled := some { res := 5#64, ill := 0#1 }, nativeW := .w32 } :=
  rfl

end Sys2Proof.Tests
end

section
/-! SUPPORT. The decoder, field by field (spec/30_encoding.md R60 to R65). -/

namespace Sys2Proof

/-- R61: the family table inverts the code table. -/
@[simp] theorem codeOfFamily_familyOfCode (c : BitVec 3) : codeOfFamily (familyOfCode c) = c := by
  revert c; decide

/-- R62: the width a `WSZ` code selects is `8 << WSZ`. -/
@[simp] theorem widthBits_widthOfCode (c : BitVec 2) : widthBits (widthOfCode c) = 8 <<< c.toNat := by
  revert c; decide

/-- R6, R72: the native width has `NATIVE_W` bits. -/
@[simp] theorem widthBits_nativeWidth (n : NativeWidth) : widthBits (nativeWidth n) = n.bits := by
  cases n <;> rfl

/-- R64: an instruction stands in the cell of the opcode map that its family and its width name. -/
theorem selectOf_eq_ok {f : Family} {w : Width} {i : Instr} (h : selectOf f w = .ok i) (n : NativeWidth) :
    instrFamily i = f ∧ instrWidth n i = w := by
  cases f <;> cases w <;> cases h <;> exact ⟨rfl, rfl⟩

/-- R60 to R63: the fields of a `ctl` value that decodes are those of its instruction, at either native width. -/
theorem fields_of_decode_eq_ok {ctl : Select} {i : Instr} (h : decode ctl = .ok i) (n : NativeWidth) :
    ctlRsv ctl = 0b000#3 ∧ ctlFam ctl = codeOfFamily (instrFamily i) ∧
      8 <<< (ctlWsz ctl).toNat = widthBits (instrWidth n i) := by
  unfold decode at h
  split at h
  next hrsv =>
    obtain ⟨hfam, hwidth⟩ := selectOf_eq_ok h n
    exact ⟨hrsv, by simp [hfam], by simp [hwidth]⟩
  next => cases h

end Sys2Proof

namespace Sys2Proof.Machine

/-- R65: an illegal select, in terms of the bits of `ctl`. -/
theorem isIllegal_iff (ctl : Select) :
    isIllegal ctl = true ↔
      (ctl.extractLsb' 5 3 ≠ 0b000#3 ∨ (ctl.extractLsb' 0 3 = 0b110#3 ∧ ctl.extractLsb' 3 2 = 0b00#2)) := by
  simp [isIllegal, ctlRsv, ctlFam, ctlWsz]

/-- R65: a `ctl` value that decodes is no illegal select. -/
theorem isIllegal_of_decode_eq_ok {ctl : Select} {i : Instr} (h : decode ctl = .ok i) : isIllegal ctl = false := by
  obtain ⟨hrsv, -, -⟩ := fields_of_decode_eq_ok h .w64
  have hcell : ¬ (ctlFam ctl = 0b110#3 ∧ ctlWsz ctl = 0b00#2) := by
    rintro ⟨hfam, hwsz⟩
    have hrej : decode ctl = .error .reverseBytes8 := by rw [decode, if_pos hrsv, hfam, hwsz]; rfl
    rw [hrej] at h
    cases h
  simpa [isIllegal, hrsv] using hcell

/-- R23: the output `ill` is 1 exactly for an illegal select. -/
theorem illOf_eq_one_iff (ctl : Select) : illOf ctl = 1#1 ↔ isIllegal ctl = true := by
  cases h : isIllegal ctl <;> simp [illOf, h]

end Sys2Proof.Machine
end

section
/-! SUPPORT. What one evaluation does, said once: `step` and the combinational function of R80 agree. -/

namespace Sys2Proof.Machine

/-- R24: `uint_size` is read off the built width alone. -/
theorem State.uintSize_of_nativeW {s : State} {n : NativeWidth} (h : s.nativeW = n) :
    s.uintSize = BitVec.ofNat 7 n.bits := h ▸ rfl

/-- R29, R82: the `ill` that the combinational function drives is the output `ill`. -/
@[simp] theorem State.driven_ill (s : State) : s.driven.ill = s.ill := rfl

/-- R80, R81: every instruction completes, and what is sampled is the entry of the pseudocode for its family and its
width. -/
theorem exec_eq_familyResult (i : Instr) (s : State) :
    exec i s = .next (s.sample
      { res := familyResult (codeOfFamily (instrFamily i)) (widthBits (instrWidth s.nativeW i)) s.a s.k
        ill := 0#1 }) := by
  cases i
  case leadingZeros | trailingZeros | onesCount | rotateLeft | rotateRight | reverse | reverseBytes | len =>
    rw [instrWidth, widthBits_nativeWidth]; rfl
  all_goals rfl

/-- R80: on a `ctl` that decodes, the combinational function drives the entry of the pseudocode for the instruction. -/
theorem State.driven_of_decode_eq_ok {s : State} {i : Instr} (h : decode s.ctl = .ok i) :
    s.driven =
      { res := familyResult (codeOfFamily (instrFamily i)) (widthBits (instrWidth s.nativeW i)) s.a s.k
        ill := 0#1 } := by
  obtain ⟨-, hfam, hwidth⟩ := fields_of_decode_eq_ok h s.nativeW
  simp [State.driven, outputs, State.inputs, illOf, isIllegal_of_decode_eq_ok h, hfam, hwidth]

/-- R80: on a `ctl` that decodes, a step is the meaning of the instruction. -/
theorem step_of_decode_eq_ok {s : State} {i : Instr} (h : decode s.ctl = .ok i) : step s = exec i s := by
  simp only [step, h]

/-- R80, R81: a step that answers a next state samples what the BCU drives, and does nothing else. -/
theorem eq_sample_driven_of_step {s t : State} (h : step s = .next t) : t = s.sample s.driven := by
  cases hd : decode s.ctl with
  | ok i =>
    rw [step_of_decode_eq_ok hd, exec_eq_familyResult, ← State.driven_of_decode_eq_ok hd] at h
    injection h with h
    exact h.symm
  | error r => rw [step_of_rejected hd] at h; cases h

/-- R25: no sequence of evaluations writes the built width. -/
@[simp] theorem session_nativeW (ps : List Inputs) (s : State) : (session ps s).ports.nativeW = s.nativeW := by
  induction ps generalizing s with
  | nil => rfl
  | cons p ps ih =>
    obtain ⟨i, r, -, -, hone⟩ | ⟨e, -, hone⟩ := serveOne_cases p s
    · simp [session, hone, ih]
    · simp [session, hone]

end Sys2Proof.Machine
end

section
/-! PROOFS. The statements of spec/10_state.md. -/

namespace Sys2Proof.Proofs

open Sys2Proof.Machine Sys2Proof.Safety

/-- Sampling what the BCU drives keeps the invariant and makes the sample current, whatever was sampled before. -/
theorem bcuInv_sample_driven {n : NativeWidth} {s : State} (h : BcuInv n s) : BcuInv n (s.sample s.driven) := by
  obtain ⟨hwidth, hsize, -⟩ := h
  refine ⟨by simpa using hwidth, by simpa using hsize, fun o ho => ?_⟩
  rw [State.sample_sampled, Option.some.injEq] at ho
  rw [State.sample_driven, ho]

/-- Settles O11: a step only samples what the BCU drives. -/
theorem everyStepKeepsTheBcuInvariant : Obligations.EveryStepKeepsTheBcuInvariant := by
  intro n s t hinv hstep
  obtain rfl := eq_sample_driven_of_step hstep
  exact ⟨bcuInv_sample_driven hinv, rfl⟩

/-- Settles O13: no evaluation writes the built width, and `uint_size` is read off it. -/
theorem uintSizeAlwaysReadsNativeW : Obligations.UintSizeAlwaysReadsNativeW := by
  intro ps s
  have hsize := State.uintSize_of_nativeW (session_nativeW ps s)
  refine ⟨session_nativeW ps s, ?_, hsize.symm⟩
  rw [hsize]
  cases s.nativeW <;> rfl

/-- Settles O14: every meaning ends in one sample with `ill = 0`, and the frame is that of a sample. -/
theorem everyInstructionFrame : Obligations.EveryInstructionFrame := by
  intro i s
  obtain ⟨r, hexec⟩ := exec_samples i s
  exact ⟨s.sample { res := r, ill := 0#1 }, { res := r, ill := 0#1 }, hexec, by simp⟩

/-- Settles O6, from the equation of a step on a `ctl` that decodes. -/
theorem stepRunsTheDecodedInstruction : Obligations.StepRunsTheDecodedInstruction :=
  fun _ _ => step_of_decode_eq_ok

/-- Settles O51: `ill` is `illOf` of the `ctl` on the port, in every state. -/
theorem illIsTheFunctionOfCtl : Obligations.IllIsTheFunctionOfCtl := by
  refine ⟨fun s => (illOf_eq_one_iff s.ctl).trans (isIllegal_iff s.ctl), fun s s' h => ?_,
    fun s p => State.present_ill p s, State.withFetchWord_ill, State.driven_ill⟩
  rw [State.ill, State.ill, h]

end Sys2Proof.Proofs
end

section
/-! SUPPORT. The constant memories (spec/20_memory.md R42 to R46): each entry of the lookup table, and the De Bruijn
table as the inverse of the index. -/

namespace Sys2Proof.Machine

/-- What holds in every row and column of the listings of R43, which have 16 rows of 16 entries, holds of every byte. -/
theorem forall_byte_of_rows {P : Byte → Prop} (h : ∀ row col : BitVec 4, P (row ++ col)) (i : Byte) : P i := by
  have hi : i.extractLsb' 4 4 ++ i.extractLsb' 0 4 = i := BitVec.extractLsb'_append_extractLsb' (w := 4) (len := 4)
  exact hi ▸ h (i.extractLsb' 4 4) (i.extractLsb' 0 4)

/-- R42: every entry of the field `lz8` meets its formula. -/
@[simp] theorem lutLz8_toNat (i : Byte) : (lutLz8 i).toNat = lz i :=
  forall_byte_of_rows (P := fun i => (lutLz8 i).toNat = lz i) (by decide) i

/-- R42: every entry of the field `tz8` meets its formula. -/
@[simp] theorem lutTz8_toNat (i : Byte) : (lutTz8 i).toNat = tz i :=
  forall_byte_of_rows (P := fun i => (lutTz8 i).toNat = tz i) (by decide) i

/-- R42: every entry of the field `pop8` meets its formula. -/
@[simp] theorem lutPop8_toNat (i : Byte) : (lutPop8 i).toNat = pop i :=
  forall_byte_of_rows (P := fun i => (lutPop8 i).toNat = pop i) (by decide) i

/-- R42: every entry of the field `rev8` meets its formula. -/
@[simp] theorem lutRev8_eq_rev (i : Byte) : lutRev8 i = rev i :=
  forall_byte_of_rows (P := fun i => lutRev8 i = rev i) (by decide) i

theorem length_lutLz8Listing : lutLz8Listing.length = 256 := by
  simp only [lutLz8Listing, List.length_append, List.length_cons, List.length_nil]

theorem length_lutTz8Listing : lutTz8Listing.length = 256 := by
  simp only [lutTz8Listing, List.length_append, List.length_cons, List.length_nil]

theorem length_lutPop8Listing : lutPop8Listing.length = 256 := by
  simp only [lutPop8Listing, List.length_append, List.length_cons, List.length_nil]

theorem length_lutRev8Listing : lutRev8Listing.length = 256 := by
  simp only [lutRev8Listing, List.length_append, List.length_cons, List.length_nil]

/-- R44: positions below 64 with the same index are the same. -/
theorem deBruijnIndex_inj (b : DeBruijnConstant) {p q : Nat} (hp : p < 64) (hq : q < 64)
    (h : deBruijnIndex b.val p = deBruijnIndex b.val q) : p = q :=
  List.inj_on_of_nodup_map b.distinct (List.mem_range.mpr hp) (List.mem_range.mpr hq) h

/-- R44: 64 different 6-bit indices are all the 6-bit indices there are. -/
theorem deBruijnIndex_surj (b : DeBruijnConstant) (i : BitVec 6) : ∃ p, p < 64 ∧ deBruijnIndex b.val p = i := by
  have hinj : Function.Injective fun p : Fin 64 => (deBruijnIndex b.val p).toFin := fun p q h =>
    Fin.ext (deBruijnIndex_inj b p.isLt q.isLt (BitVec.eq_of_toFin_eq h))
  obtain ⟨p, hp⟩ := Finite.surjective_of_injective hinj i.toFin
  exact ⟨p, p.isLt, BitVec.eq_of_toFin_eq hp⟩

/-- R45: the position ROM has one entry for each 6-bit index. -/
@[simp] theorem length_dbPosTable (b : DeBruijnConstant) : (dbPosTable b).length = 64 := by
  simp [dbPosTable]

/-- R45: an entry of the position ROM is the first position that has the index of the entry. -/
theorem dbPos_eq (b : DeBruijnConstant) (i : BitVec 6) :
    dbPos b i = BitVec.ofNat 6 (((List.range 64).find? fun p => deBruijnIndex b.val p == i).getD 0) := by
  simp [dbPos, dbPosTable, i.isLt]

/-- R44: below 64, only `p` itself has the index of `p`. -/
theorem find?_deBruijnIndex (b : DeBruijnConstant) {p : Nat} (hp : p < 64) :
    ((List.range 64).find? fun q => deBruijnIndex b.val q == deBruijnIndex b.val p) = some p := by
  cases hfind : (List.range 64).find? fun q => deBruijnIndex b.val q == deBruijnIndex b.val p with
  | none => simpa using List.find?_eq_none.mp hfind p (List.mem_range.mpr hp)
  | some q =>
    have hq : q < 64 := List.mem_range.mp (List.mem_of_find?_eq_some hfind)
    have hidx : deBruijnIndex b.val q = deBruijnIndex b.val p := by simpa using List.find?_some hfind
    rw [deBruijnIndex_inj b hq hp hidx]

/-- R45: `DBPOS[idx(p)] = p`. -/
theorem dbPos_deBruijnIndex (b : DeBruijnConstant) {p : Nat} (hp : p < 64) :
    (dbPos b (deBruijnIndex b.val p)).toNat = p := by
  rw [dbPos_eq, find?_deBruijnIndex b hp]
  exact Nat.mod_eq_of_lt hp

/-- R46: the lookup of `2^p` reads the position ROM at `idx(p)`. -/
theorem dbIndexOf_two_pow (b : DeBruijnConstant) (p : Nat) :
    dbIndexOf b (BitVec.ofNat 64 (2 ^ p)) = dbPos b (deBruijnIndex b.val p) := by
  rw [dbIndexOf, deBruijnIndex, BitVec.mul_comm]

end Sys2Proof.Machine
end

section
/-! SUPPORT. Repeated and shared use of a BCU: what one evaluation answers depends on its own inputs alone. -/

namespace Sys2Proof.Machine

/-- R49: a step does not read what was sampled before. -/
@[simp] theorem step_sample (o : Outputs) (s : State) : step (s.sample o) = step s := by
  cases hd : decode s.ctl with
  | ok i =>
    have hd' : decode (s.sample o).ctl = .ok i := hd
    rw [step_of_decode_eq_ok hd, step_of_decode_eq_ok hd', exec_eq_familyResult, exec_eq_familyResult]
    rfl
  | error r =>
    have hd' : decode (s.sample o).ctl = .error r := hd
    rw [step_of_rejected hd, step_of_rejected hd', State.sample_ctl]

/-- R80, R81: a client of a legal select samples the outputs for its own inputs, from any state of any BCU. -/
theorem serveOne_of_decode_eq_ok {p : Inputs} {i : Instr} (h : decode p.ctl = .ok i) (s : State) :
    serveOne p s = (some (.sampled (outputs p)), (s.present p).sample (outputs p)) := by
  have hstep : step (s.present p) = .next ((s.present p).sample (outputs p)) := by
    rw [step_of_decode_eq_ok (s := s.present p) h, exec_eq_familyResult,
      ← State.driven_of_decode_eq_ok (s := s.present p) h, State.present_driven]
  simp [serveOne, evaluate, hstep]

/-- R82, R251: a client of an illegal select gets its fault, from any state of any BCU. -/
theorem serveOne_of_rejected {p : Inputs} {e : Reject} (h : decode p.ctl = .error e) (s : State) :
    serveOne p s = (some (.ended (.fault (.illegalSelect p.ctl))), s.present p) := by
  simp [serveOne, evaluate, step_of_rejected (s := s.present p) h]

/-- R80: after a legal select the client goes on, with its outputs as the first answer. -/
theorem session_answers_of_decode_eq_ok {p : Inputs} {i : Instr} (h : decode p.ctl = .ok i) (ps : List Inputs)
    (s : State) :
    (session (p :: ps) s).answers =
      .sampled (outputs p) :: (session ps ((s.present p).sample (outputs p))).answers := by
  simp only [session, serveOne_of_decode_eq_ok h]

/-- R251: an illegal select ends its client's run. -/
theorem session_of_rejected {p : Inputs} {e : Reject} (h : decode p.ctl = .error e) (ps : List Inputs) (s : State) :
    session (p :: ps) s =
      { ports := s.present p, answers := [.ended (.fault (.illegalSelect p.ctl))] } := by
  simp only [session, serveOne_of_rejected h]

/-- The evaluations of client `c`, one entry of the schedule at a time. -/
theorem ownInputs_cons (c d : Nat) (p : Inputs) (sched : List (Nat × Inputs)) :
    ownInputs c ((d, p) :: sched) = if d = c then p :: ownInputs c sched else ownInputs c sched := by
  by_cases h : d = c <;> simp [ownInputs, h]

/-- The answers of client `c`, one answer of the run at a time. -/
theorem ownAnswers_cons (c d : Nat) (x : Answer) (t : State) (r : SharedRun) :
    ownAnswers c { ports := t, answers := (d, x) :: r.answers } =
      if d = c then x :: ownAnswers c r else ownAnswers c r := by
  by_cases h : d = c <;> simp [ownAnswers, h]

section Serve

variable {c d : Nat} {p : Inputs} {ended : List Nat} (sched : List (Nat × Inputs)) (s : State)

/-- R251: a client whose run is over makes no evaluation. -/
theorem serve_cons_of_mem (hd : d ∈ ended) : serve ((d, p) :: sched) ended s = serve sched ended s := by
  simp only [serve, if_pos hd]

/-- R80: the answer to a legal select goes to the client that made it, and everyone goes on. -/
theorem ownAnswers_serve_of_decode_eq_ok {i : Instr} (hd : d ∉ ended) (h : decode p.ctl = .ok i) :
    ownAnswers c (serve ((d, p) :: sched) ended s) =
      if d = c then .sampled (outputs p) :: ownAnswers c (serve sched ended ((s.present p).sample (outputs p)))
      else ownAnswers c (serve sched ended ((s.present p).sample (outputs p))) := by
  simp only [serve, if_neg hd, serveOne_of_decode_eq_ok h, ownAnswers_cons]

/-- R251, R254: the fault of an illegal select goes to the client that made it, and the others go on. -/
theorem ownAnswers_serve_of_rejected {e : Reject} (hd : d ∉ ended) (h : decode p.ctl = .error e) :
    ownAnswers c (serve ((d, p) :: sched) ended s) =
      if d = c then .ended (.fault (.illegalSelect p.ctl)) :: ownAnswers c (serve sched (d :: ended) (s.present p))
      else ownAnswers c (serve sched (d :: ended) (s.present p)) := by
  simp only [serve, if_neg hd, serveOne_of_rejected h, ownAnswers_cons]

/-- R251: a client whose run is over gets no answer. -/
theorem ownAnswers_serve_of_mem (hc : c ∈ ended) : ownAnswers c (serve sched ended s) = [] := by
  induction sched generalizing ended s with
  | nil => rfl
  | cons e sched ih =>
    obtain ⟨d, p⟩ := e
    by_cases hd : d ∈ ended
    · rw [serve_cons_of_mem sched s hd, ih s hc]
    · have hdc : d ≠ c := fun h => hd (h ▸ hc)
      cases hdec : decode p.ctl with
      | ok i => rw [ownAnswers_serve_of_decode_eq_ok sched s hd hdec, if_neg hdc, ih _ hc]
      | error r =>
        rw [ownAnswers_serve_of_rejected sched s hd hdec, if_neg hdc, ih _ (List.mem_cons_of_mem d hc)]

/-- R51, R254: a client whose run is not over gets the answers of its own session, whoever else uses the BCU. -/
theorem ownAnswers_serve_of_notMem (s' : State) (hc : c ∉ ended) :
    ownAnswers c (serve sched ended s) = (session (ownInputs c sched) s').answers := by
  induction sched generalizing ended s s' with
  | nil => rfl
  | cons e sched ih =>
    obtain ⟨d, p⟩ := e
    rw [ownInputs_cons]
    by_cases hd : d ∈ ended
    · have hdc : d ≠ c := fun h => hc (h ▸ hd)
      rw [serve_cons_of_mem sched s hd, if_neg hdc, ih s s' hc]
    · cases hdec : decode p.ctl with
      | ok i =>
        rw [ownAnswers_serve_of_decode_eq_ok sched s hd hdec]
        split
        · rw [session_answers_of_decode_eq_ok hdec, ih _ _ hc]
        · exact ih _ s' hc
      | error r =>
        rw [ownAnswers_serve_of_rejected sched s hd hdec]
        split
        next hdc => rw [session_of_rejected hdec, ownAnswers_serve_of_mem _ _ (by simp [hdc])]
        next hdc => exact ih _ s' (by simp [hc, Ne.symm hdc])

end Serve

end Sys2Proof.Machine
end

section
/-! PROOFS. The statements of spec/20_memory.md. -/

namespace Sys2Proof.Proofs

open Sys2Proof.Machine

/-- Settles O32, for every constant: the distinct indices make the position ROM the inverse of the index. -/
theorem deBruijnTableInvertsTheIndex : Obligations.DeBruijnTableInvertsTheIndex := fun b =>
  ⟨length_dbPosTable b, fun _ _ => deBruijnIndex_inj b, fun _ => dbPos_deBruijnIndex b, deBruijnIndex_surj b⟩

/-- Settles O33: the lookup of `2^p` reads the entry at `idx(p)`, which is `p`; the built constant is one more. -/
theorem deBruijnLookupFindsThePosition : Obligations.DeBruijnLookupFindsThePosition := by
  intro p hp
  have hlookup (b : DeBruijnConstant) : (dbIndexOf b (BitVec.ofNat 64 (2 ^ p))).toNat = p := by
    rw [dbIndexOf_two_pow, dbPos_deBruijnIndex b hp]
  exact ⟨hlookup, hlookup Config.dbB⟩

/-- Settles O47: the next state differs in the sample alone, which a step does not read. -/
theorem evaluationIsIdempotent : Obligations.EvaluationIsIdempotent := by
  intro s t h
  obtain rfl := eq_sample_driven_of_step h
  rw [step_sample, h]

/-- Settles O50, with no client's run over at the start. -/
theorem clientsDoNotObserveEachOther : Obligations.ClientsDoNotObserveEachOther :=
  fun sched s s' _ => ownAnswers_serve_of_notMem sched s s' List.not_mem_nil

/-- Settles O28, field by field. -/
theorem lutListingMeetsItsFormulas : Obligations.LutListingMeetsItsFormulas :=
  ⟨length_lutLz8Listing, length_lutTz8Listing, length_lutPop8Listing, length_lutRev8Listing, fun i =>
    ⟨lutLz8_toNat i, lutTz8_toNat i, lutPop8_toNat i, lutRev8_eq_rev i⟩⟩

/-- Settles O35: a constant is its value, so the constant of the statement is the default one. -/
theorem exampleDeBruijnConstantIsLegal : Obligations.ExampleDeBruijnConstantIsLegal := by
  refine ⟨by decide, (default : DeBruijnConstant).distinct, fun b hb => ?_⟩
  obtain rfl : b = default := by cases b; cases hb; rfl
  decide

end Sys2Proof.Proofs
end

section
/-! SUPPORT. The `CTL8` format as a bijection: the fields of an encoding, and the two round trips between a `ctl` value
and its instruction (spec/30_encoding.md R60 to R73). -/

namespace Sys2Proof

/-- R61: the code table inverts the family table. -/
@[simp] theorem familyOfCode_codeOfFamily (f : Family) : familyOfCode (codeOfFamily f) = f := by
  cases f <;> rfl

/-- R62: the code table inverts the width table. -/
@[simp] theorem widthOfCode_codeOfWidth (w : Width) : widthOfCode (codeOfWidth w) = w := by
  cases w <;> rfl

/-- R62: the width table inverts the code table. -/
@[simp] theorem codeOfWidth_widthOfCode (c : BitVec 2) : codeOfWidth (widthOfCode c) = c := by
  revert c; decide

/-- R60: a `ctl` value is its three fields. -/
theorem append_ctl_fields (ctl : Select) : ctlRsv ctl ++ ctlWsz ctl ++ ctlFam ctl = ctl := by
  have hhigh : ctlRsv ctl ++ ctlWsz ctl = ctl.extractLsb' 3 5 :=
    BitVec.extractLsb'_append_extractLsb'_eq_extractLsb' rfl
  rw [hhigh]
  exact BitVec.extractLsb'_append_extractLsb' (w := 5) (len := 3)

/-- R60: the `RSV` field of an encoding. -/
@[simp] theorem ctlRsv_encode (n : NativeWidth) (i : Instr) : ctlRsv (encode n i) = 0b000#3 := by
  simp only [encode, ctlRsv]
  cases instrWidth n i <;> cases instrFamily i <;> rfl

/-- R60, R61: the `FAM` field of an encoding. -/
@[simp] theorem ctlFam_encode (n : NativeWidth) (i : Instr) :
    ctlFam (encode n i) = codeOfFamily (instrFamily i) :=
  BitVec.extractLsb'_append_eq_right

/-- R60, R62: the `WSZ` field of an encoding. -/
@[simp] theorem ctlWsz_encode (n : NativeWidth) (i : Instr) :
    ctlWsz (encode n i) = codeOfWidth (instrWidth n i) := by
  simp only [encode, ctlWsz]
  cases instrWidth n i <;> cases instrFamily i <;> rfl

/-- R62, R64: the opcode map names no native pseudo-instruction. -/
theorem wf_of_selectOf_eq_ok {f : Family} {w : Width} {i : Instr} (h : selectOf f w = .ok i) : i.wf = true := by
  cases f <;> cases w <;> cases h <;> rfl

/-- R211: the one empty cell of the opcode map is the 8-bit byte reversal. -/
theorem eq_reverseBytes8_of_selectOf_eq_error {f : Family} {w : Width} {r : Reject} (h : selectOf f w = .error r) :
    f = .reverseBytes ∧ w = .w8 := by
  cases f <;> cases w <;> cases h; exact ⟨rfl, rfl⟩

/-- R64, R72: the cell of an instruction's family and width holds the select that the instruction expands to. -/
theorem selectOf_instr (n : NativeWidth) (i : Instr) :
    selectOf (instrFamily i) (instrWidth n i) = .ok (resolve n i) := by
  cases n <;> cases i <;> rfl

/-- R72: the expansion keeps the family. -/
@[simp] theorem instrFamily_resolve (n : NativeWidth) (i : Instr) : instrFamily (resolve n i) = instrFamily i :=
  (selectOf_eq_ok (selectOf_instr n i) n).1

/-- R72: the expansion keeps the width. -/
@[simp] theorem instrWidth_resolve (n : NativeWidth) (i : Instr) : instrWidth n (resolve n i) = instrWidth n i :=
  (selectOf_eq_ok (selectOf_instr n i) n).2

/-- R72: a native pseudo-instruction has the built width. -/
theorem instrWidth_of_not_wf {i : Instr} (h : i.wf = false) (n : NativeWidth) : instrWidth n i = nativeWidth n := by
  cases i <;> cases h <;> rfl

/-- R60 to R65: what decodes has `RSV = 000` and stands in the cell of its two codes. -/
theorem decode_eq_ok_iff {ctl : Select} {i : Instr} :
    decode ctl = .ok i ↔
      ctlRsv ctl = 0b000#3 ∧ selectOf (familyOfCode (ctlFam ctl)) (widthOfCode (ctlWsz ctl)) = .ok i := by
  by_cases hrsv : ctlRsv ctl = 0b000#3 <;> simp [decode, hrsv]

/-- R72, R73: an instruction's encoding decodes to what the instruction expands to. -/
theorem decode_encode (n : NativeWidth) (i : Instr) : decode (encode n i) = .ok (resolve n i) :=
  decode_eq_ok_iff.mpr ⟨ctlRsv_encode n i, by simpa using selectOf_instr n i⟩

/-- R64, R72: a `ctl` value that decodes selects no native pseudo-instruction. -/
theorem wf_of_decode_eq_ok {ctl : Select} {i : Instr} (h : decode ctl = .ok i) : i.wf = true :=
  wf_of_selectOf_eq_ok (decode_eq_ok_iff.mp h).2

/-- R60, R70: a `ctl` value that decodes is the encoding of its instruction, at either native width. -/
theorem encode_of_decode_eq_ok {ctl : Select} {i : Instr} (h : decode ctl = .ok i) (n : NativeWidth) :
    encode n i = ctl := by
  obtain ⟨hrsv, hcell⟩ := decode_eq_ok_iff.mp h
  obtain ⟨hfam, hwidth⟩ := selectOf_eq_ok hcell n
  calc encode n i = ctlRsv ctl ++ ctlWsz ctl ++ ctlFam ctl := by simp [encode, hfam, hwidth, hrsv]
    _ = ctl := append_ctl_fields ctl

/-- R64: the listing of the opcode map has every cell of the map, under the codes of the cell. -/
theorem mem_opcodeMap_of_selectOf_eq_ok {f : Family} {w : Width} {i : Instr} (h : selectOf f w = .ok i) :
    ((0b000#3 ++ codeOfWidth w ++ codeOfFamily f : BitVec 8), i) ∈ Safety.opcodeMap := by
  cases f <;> cases w <;> cases h <;> decide

end Sys2Proof

namespace Sys2Proof.Machine

/-- R65: the decoder rejects exactly the illegal selects. -/
theorem exists_decode_eq_error_iff (ctl : Select) : (∃ r, decode ctl = .error r) ↔ isIllegal ctl = true := by
  constructor
  · rintro ⟨r, h⟩
    by_cases hrsv : ctlRsv ctl = 0b000#3
    · rw [decode, if_pos hrsv] at h
      obtain ⟨hfam, hwidth⟩ := eq_reverseBytes8_of_selectOf_eq_error h
      have hfam : ctlFam ctl = 0b110#3 := by rw [← codeOfFamily_familyOfCode (ctlFam ctl), hfam]; rfl
      have hwsz : ctlWsz ctl = 0b00#2 := by rw [← codeOfWidth_widthOfCode (ctlWsz ctl), hwidth]; rfl
      simp [isIllegal, hfam, hwsz]
    · simp [isIllegal, hrsv]
  · intro hill
    cases h : decode ctl with
    | ok i => rw [isIllegal_of_decode_eq_ok h] at hill; cases hill
    | error r => exact ⟨r, rfl⟩

/-- R65, R211: with `RSV = 000` the one illegal select is `0x06`. -/
theorem eq_0x06_of_isIllegal {ctl : Select} (hill : isIllegal ctl = true) (hrsv : ctlRsv ctl = 0b000#3) :
    ctl = 0x06#8 := by
  obtain h | ⟨hfam, hwsz⟩ := (isIllegal_iff ctl).mp hill
  · exact absurd hrsv h
  · rw [← append_ctl_fields ctl, hrsv, ctlWsz, ctlFam, hfam, hwsz]; rfl

/-- R72: an instruction and its expansion have the same meaning on a BCU built with that native width. -/
theorem exec_resolve (i : Instr) (s : State) : exec (resolve s.nativeW i) s = exec i s := by
  rw [exec_eq_familyResult, exec_eq_familyResult, instrFamily_resolve, instrWidth_resolve]

end Sys2Proof.Machine
end

section
/-! PROOFS. The statements of spec/30_encoding.md. -/

namespace Sys2Proof.Proofs

open Sys2Proof.Machine

/-- Settles O4, from the cell of the opcode map that the fields of the `ctl` value name. -/
theorem encodeOfDecodeIsTheSelect : Obligations.EncodeOfDecodeIsTheSelect :=
  fun n _ _ h => ⟨wf_of_decode_eq_ok h, encode_of_decode_eq_ok h n⟩

/-- Settles O5: a native form has the built width, so its `WSZ` code is that of `NATIVE_W` above any `FAM` code. -/
theorem nativeSelectsExpand : Obligations.NativeSelectsExpand := by
  intro i hi
  have hwidth := instrWidth_of_not_wf hi
  have h32 (c : BitVec 3) : 0b000#3 ++ 0b10#2 ++ c = c.setWidth 8 ||| 0x10#8 := by revert c; decide
  have h64 (c : BitVec 3) : 0b000#3 ++ 0b11#2 ++ c = c.setWidth 8 ||| 0x18#8 := by revert c; decide
  refine ⟨?_, ?_, ?_, ?_, fun n => ⟨decode_encode n i, instrFamily_resolve n i, ?_⟩⟩
  · rw [encode, hwidth]; exact h32 _
  · rw [encode, hwidth]; exact h64 _
  · rw [ctlWsz_encode, hwidth]; rfl
  · rw [ctlWsz_encode, hwidth]; rfl
  · rw [instrWidth_resolve, hwidth, widthBits_nativeWidth]

/-- Settles O18: the line's `ctl` value decodes to the expansion of the named instruction, which means the same. -/
theorem assemblerLineEvaluates : Obligations.AssemblerLineEvaluates := by
  intro i a k s
  have hdec : decode (s.present (line s.nativeW i a k)).ctl = .ok (resolve s.nativeW i) := decode_encode s.nativeW i
  rw [evaluate, step_of_decode_eq_ok hdec]
  exact exec_resolve i (s.present (line s.nativeW i a k))

/-- Settles O1: the listed cells are decoded one by one, and what decodes is listed under its own fields. -/
theorem opcodeMapIsTheDecoder : Obligations.OpcodeMapIsTheDecoder := by
  refine ⟨by decide, fun ctl i h => ?_, rfl⟩
  obtain ⟨hrsv, hcell⟩ := decode_eq_ok_iff.mp h
  have hmem := mem_opcodeMap_of_selectOf_eq_ok hcell
  rwa [codeOfWidth_widthOfCode, codeOfFamily_familyOfCode, ← hrsv, append_ctl_fields] at hmem

/-- Settles O2: rejection is `isIllegal`, and the two counts run over the 256 `ctl` values. -/
theorem illegalSelectsAreRejectedExactly : Obligations.IllegalSelectsAreRejectedExactly :=
  ⟨fun ctl => (exists_decode_eq_error_iff ctl).trans (isIllegal_iff ctl), by decide +kernel, by decide +kernel,
    fun _ => eq_0x06_of_isIllegal⟩

end Sys2Proof.Proofs
end

section
/-! SUPPORT. A step and the combinational function of R80 on every `ctl`, the illegal ones too (spec/40_adapters.md R80
to R82), and which bits of the ports a result reads (R89). -/

namespace Sys2Proof

/-- R62, R70: the width of a `ctl` value that decodes is that of its `WSZ` code, at either native width. -/
theorem instrWidth_of_decode_eq_ok {ctl : Select} {i : Instr} (h : decode ctl = .ok i) (n : NativeWidth) :
    instrWidth n i = widthOfCode (ctlWsz ctl) :=
  (selectOf_eq_ok (decode_eq_ok_iff.mp h).2 n).2

/-- R72: a select expands to itself. -/
theorem resolve_of_wf {i : Instr} (h : i.wf = true) (n : NativeWidth) : resolve n i = i := by
  cases i
  case leadingZeros | trailingZeros | onesCount | rotateLeft | rotateRight | reverse | reverseBytes | len => cases h
  all_goals cases n <;> rfl

/-- R62: every width divides `2^64`, so a reduction modulo it does not see how the port `k` wraps. -/
theorem widthBits_dvd_two_pow (w : Width) : widthBits w ∣ 2 ^ 64 := by
  cases w <;> decide

end Sys2Proof

namespace Sys2Proof.Machine

/-- R65: a `ctl` value that is no illegal select decodes. -/
theorem exists_decode_eq_ok {ctl : Select} (h : isIllegal ctl = false) : ∃ i, decode ctl = .ok i := by
  cases hd : decode ctl with
  | ok i => exact ⟨i, rfl⟩
  | error r => rw [(exists_decode_eq_error_iff ctl).mp ⟨r, hd⟩] at h; cases h

/-- R82: what the BCU drives for an illegal select. -/
theorem outputs_of_isIllegal {p : Inputs} (h : isIllegal p.ctl = true) : outputs p = { res := 0#64, ill := 1#1 } := by
  simp [outputs, illOf, h]

/-- R82, R273: what the BCU drives while an illegal select is on the port. -/
theorem State.driven_of_isIllegal {s : State} (h : isIllegal s.ctl = true) : s.driven = { res := 0#64, ill := 1#1 } :=
  outputs_of_isIllegal (p := s.inputs) h

/-- R82: an illegal select ends the step in the fault that names it. -/
theorem step_of_isIllegal {s : State} (h : isIllegal s.ctl = true) : step s = .fault (.illegalSelect s.ctl) := by
  obtain ⟨r, hr⟩ := (exists_decode_eq_error_iff s.ctl).mpr h
  exact step_of_rejected hr

/-- R80, R81: on a `ctl` that decodes, the client samples what the BCU drives. -/
theorem step_eq_sample_driven {s : State} {i : Instr} (h : decode s.ctl = .ok i) :
    step s = .next (s.sample s.driven) := by
  rw [step_of_decode_eq_ok h, exec_eq_familyResult, ← State.driven_of_decode_eq_ok h]

/-- R160: the rotation reads its amount modulo the width. -/
theorem rol_congr {w : Nat} (x : BitVec w) {j k : Int} (h : j ≡ k [ZMOD w]) : rol x j = rol x k := by
  have hamount : rotateAmount w j = rotateAmount w k := congrArg Int.toNat h
  simp only [rol, hamount]

/-- R160, R162: the right rotation reads its amount modulo the width, too. -/
theorem ror_congr {w : Nat} (x : BitVec w) {j k : Int} (h : j ≡ k [ZMOD w]) : ror x j = ror x k :=
  rol_congr x h.neg

/-- R68, R160: modulo a divisor of `2^64` the signed and the unsigned reading of `k` agree. -/
theorem toInt_modEq_toNat {m : Nat} (hm : m ∣ 2 ^ 64) (k : Word) : k.toInt ≡ k.toNat [ZMOD m] := by
  have hfull : k.toInt ≡ k.toNat [ZMOD (2 ^ 64 : Nat)] := by
    rw [BitVec.toInt_eq_toNat_bmod]
    exact Int.bmod_emod
  exact hfull.of_dvd (Int.natCast_dvd_natCast.mpr hm)

/-- R68, R160: amounts that agree modulo a divisor of `2^64` as ports agree modulo it as integers. -/
theorem toInt_modEq_toInt {m : Nat} (hm : m ∣ 2 ^ 64) {j k : Word} (h : j.toNat % m = k.toNat % m) :
    j.toInt ≡ k.toInt [ZMOD m] :=
  calc j.toInt ≡ j.toNat [ZMOD m] := toInt_modEq_toNat hm j
    _ ≡ k.toNat [ZMOD m] := Int.natCast_modEq_iff.mpr h
    _ ≡ k.toInt [ZMOD m] := (toInt_modEq_toNat hm k).symm

section FamilyResult

variable (w : Nat) (a k : Word)

/-! R80: the entry of the pseudocode for each family. -/

@[simp] theorem familyResult_leadingZeros :
    familyResult (codeOfFamily .leadingZeros) w a k = widenCount (lz (a.setWidth w)) := rfl
@[simp] theorem familyResult_trailingZeros :
    familyResult (codeOfFamily .trailingZeros) w a k = widenCount (tz (a.setWidth w)) := rfl
@[simp] theorem familyResult_onesCount :
    familyResult (codeOfFamily .onesCount) w a k = widenCount (pop (a.setWidth w)) := rfl
@[simp] theorem familyResult_rotateLeft :
    familyResult (codeOfFamily .rotateLeft) w a k = widenValue (rol (a.setWidth w) k.toInt) := rfl
@[simp] theorem familyResult_rotateRight :
    familyResult (codeOfFamily .rotateRight) w a k = widenValue (ror (a.setWidth w) k.toInt) := rfl
@[simp] theorem familyResult_reverse :
    familyResult (codeOfFamily .reverse) w a k = widenValue (rev (a.setWidth w)) := rfl
@[simp] theorem familyResult_reverseBytes :
    familyResult (codeOfFamily .reverseBytes) w a k = widenValue (revb (a.setWidth w)) := rfl
@[simp] theorem familyResult_len :
    familyResult (codeOfFamily .len) w a k = widenCount (len (a.setWidth w)) := rfl

end FamilyResult

/-- R89: the result of an instruction reads the low `w` bits of `a`, and `k` modulo `w` in a rotation. -/
theorem familyResult_congr {i : Instr} {w : Nat} {a b j k : Word} (ha : a.setWidth w = b.setWidth w)
    (hk : Safety.readsAmount i = true → j.toInt ≡ k.toInt [ZMOD w]) :
    familyResult (codeOfFamily (instrFamily i)) w a j = familyResult (codeOfFamily (instrFamily i)) w b k := by
  cases hf : instrFamily i
  case rotateLeft =>
    have hmod := hk (by simp [Safety.readsAmount, hf])
    rw [familyResult_rotateLeft, familyResult_rotateLeft, ha, rol_congr _ hmod]
  case rotateRight =>
    have hmod := hk (by simp [Safety.readsAmount, hf])
    rw [familyResult_rotateRight, familyResult_rotateRight, ha, ror_congr _ hmod]
  all_goals simp [ha]

end Sys2Proof.Machine
end

section
/-! SUPPORT. The reference counts: the positions they are made of, their range, and what the widening adapters keep of
them (spec/40_adapters.md R84, R85). -/

namespace Sys2Proof.Machine

/-- A value other than 0 has a set bit. -/
theorem exists_getLsbD_of_ne_zero {w : Nat} {x : BitVec w} (h : x ≠ 0#w) : ∃ i, i < w ∧ x.getLsbD i = true := by
  by_contra hnone
  refine h (BitVec.zero_iff_eq_false.mpr fun i => ?_)
  by_contra hi
  have hset : x.getLsbD i = true := by simpa using hi
  exact hnone ⟨i, BitVec.lt_of_getLsbD hset, hset⟩

/-- 00_scope.md §4.1: `msb` is the position of the highest set bit. -/
theorem msbIndex_spec {w : Nat} {x : BitVec w} (h : x ≠ 0#w) :
    msbIndex x < w ∧ x.getLsbD (msbIndex x) = true ∧ ∀ i, msbIndex x < i → x.getLsbD i = false := by
  obtain ⟨m, hm, hset⟩ := exists_getLsbD_of_ne_zero h
  obtain ⟨hlt, htop, habove⟩ := topSetBelow_spec x hm hset
  refine ⟨hlt, htop, fun i hi => ?_⟩
  by_cases hw : i < w
  · exact habove i hi hw
  · exact BitVec.getLsbD_of_ge x i (by omega)

/-- R120: the lowest set position is within the width, it is set, and no bit below it is. -/
theorem lsbIndex_spec {w : Nat} {x : BitVec w} (h : x ≠ 0#w) :
    lsbIndex x < w ∧ x.getLsbD (lsbIndex x) = true ∧ ∀ i, i < lsbIndex x → x.getLsbD i = false := by
  obtain ⟨m, hm, hset⟩ := exists_getLsbD_of_ne_zero h
  obtain ⟨-, -, hbelow, hfound⟩ := lowSetFrom_spec x 0 w
  rw [Nat.zero_add, ← lsbIndex] at hfound
  have hlt : lsbIndex x < w := by
    by_contra hge
    have hclear : x.getLsbD m = false := hbelow m (Nat.zero_le m) (hm.trans_le (not_lt.mp hge))
    simp [hclear] at hset
  exact ⟨hlt, hfound hlt, fun i => hbelow i (Nat.zero_le i)⟩

/-- The highest set position is the only set one with no set bit above it. -/
theorem msbIndex_eq {w : Nat} {x : BitVec w} {m : Nat} (hset : x.getLsbD m = true)
    (habove : ∀ i, m < i → x.getLsbD i = false) : msbIndex x = m := by
  have hne : x ≠ 0#w := by rintro rfl; simp at hset
  obtain ⟨-, htop, hzero⟩ := msbIndex_spec hne
  rcases Nat.lt_trichotomy (msbIndex x) m with h | h | h
  · simp [hzero m h] at hset
  · exact h
  · simp [habove _ h] at htop

/-- The lowest set position is the only set one with no set bit below it. -/
theorem lsbIndex_eq {w : Nat} {x : BitVec w} {m : Nat} (hset : x.getLsbD m = true)
    (hbelow : ∀ i, i < m → x.getLsbD i = false) : lsbIndex x = m := by
  have hne : x ≠ 0#w := by rintro rfl; simp at hset
  obtain ⟨-, hlow, hzero⟩ := lsbIndex_spec hne
  rcases Nat.lt_trichotomy (lsbIndex x) m with h | h | h
  · simp [hbelow _ h] at hlow
  · exact h
  · simp [hzero m h] at hset

/-- R100, R85: a leading-zero count is at most the width. -/
theorem lz_le {w : Nat} (x : BitVec w) : lz x ≤ w := by
  unfold lz
  split <;> omega

/-- R120, R85: a trailing-zero count is at most the width. -/
theorem tz_le {w : Nat} (x : BitVec w) : tz x ≤ w := by
  unfold tz
  split
  next => exact Nat.le_refl w
  next h => exact (lsbIndex_spec h).1.le

/-- R140, R85: a population count is at most the width. -/
theorem pop_le {w : Nat} (x : BitVec w) : pop x ≤ w := onesBelow_le x w

/-- R230, R85: a bit length is at most the width. -/
theorem len_le {w : Nat} (x : BitVec w) : len x ≤ w := by
  unfold len
  split
  next => exact Nat.zero_le w
  next h => exact (msbIndex_spec h).1

/-- R84: a widened value has no bit from its width on. -/
@[simp] theorem zext64_ushiftRight_self {w : Nat} (v : BitVec w) : zext64 v >>> w = 0#64 := by
  refine BitVec.eq_of_getLsbD_eq fun i _ => ?_
  simp [zext64]

/-- R69: a count on the result port is its low seven bits. -/
theorem widenCount_toNat_le (c : Nat) : (widenCount c).toNat ≤ c := by
  simp only [widenCount, zext64, BitVec.toNat_setWidth, BitVec.toNat_ofNat]
  exact (Nat.mod_le _ _).trans (Nat.mod_le _ _)

/-- R85: the result of a counting instruction is a count of at most the width. -/
theorem familyResult_of_isCounting {i : Instr} (h : Safety.isCounting i = true) (w : Nat) (a k : Word) :
    ∃ c, c ≤ w ∧ familyResult (codeOfFamily (instrFamily i)) w a k = widenCount c := by
  cases hf : instrFamily i
  case leadingZeros => exact ⟨_, lz_le (a.setWidth w), rfl⟩
  case trailingZeros => exact ⟨_, tz_le (a.setWidth w), rfl⟩
  case onesCount => exact ⟨_, pop_le (a.setWidth w), rfl⟩
  case len => exact ⟨_, len_le (a.setWidth w), rfl⟩
  all_goals simp [Safety.isCounting, hf] at h

/-- R84: the result of any other instruction is a value of the width. -/
theorem familyResult_of_not_isCounting {i : Instr} (h : Safety.isCounting i = false) (w : Nat) (a k : Word) :
    ∃ v : BitVec w, familyResult (codeOfFamily (instrFamily i)) w a k = widenValue v := by
  cases hf : instrFamily i
  case rotateLeft | rotateRight | reverse | reverseBytes => exact ⟨_, rfl⟩
  all_goals simp [Safety.isCounting, hf] at h

end Sys2Proof.Machine
end

section
/-! SUPPORT. The shared 64-bit engine (spec/40_adapters.md R86): the references of a value are read off its zero
extension. -/

namespace Sys2Proof.Machine

section Extension

variable {w : Nat} (x : BitVec w) (hw : w ≤ 64)
include hw

/-- The zero extension has the bits of the value, at every position. -/
theorem getLsbD_zext64 (i : Nat) : (zext64 x).getLsbD i = x.getLsbD i := by
  by_cases hi : i < 64
  · simp [zext64, hi]
  · simp [zext64, BitVec.getLsbD_of_ge x i (by omega)]

theorem zext64_eq_zero_iff : zext64 x = 0#64 ↔ x = 0#w := by
  simp only [BitVec.zero_iff_eq_false, getLsbD_zext64 x hw]

variable {x} in
theorem msbIndex_zext64 (hx : x ≠ 0#w) : msbIndex (zext64 x) = msbIndex x := by
  obtain ⟨-, hset, habove⟩ := msbIndex_spec hx
  exact msbIndex_eq ((getLsbD_zext64 x hw _).trans hset) fun i hi => (getLsbD_zext64 x hw i).trans (habove i hi)

variable {x} in
theorem lsbIndex_zext64 (hx : x ≠ 0#w) : lsbIndex (zext64 x) = lsbIndex x := by
  obtain ⟨-, hset, hbelow⟩ := lsbIndex_spec hx
  exact lsbIndex_eq ((getLsbD_zext64 x hw _).trans hset) fun i hi => (getLsbD_zext64 x hw i).trans (hbelow i hi)

theorem onesBelow_zext64 (n : Nat) : onesBelow (zext64 x) n = onesBelow x n := by
  induction n with
  | zero => rfl
  | succ n ih => rw [onesBelow, onesBelow, ih, getLsbD_zext64 x hw]

omit hw in
/-- From the width on there are no more bits to add. -/
theorem onesBelow_eq_pop {n : Nat} (hn : w ≤ n) : onesBelow x n = pop x := by
  induction n, hn using Nat.le_induction with
  | base => rfl
  | succ n hn ih => rw [onesBelow, ih, BitVec.getLsbD_of_ge x n hn, Bool.toNat_false, Nat.add_zero]

/-- R86: the 64-bit leading-zero count less the `64 - w` zeros of the extension. -/
theorem lzShared_eq_lz : lzShared x = lz x := by
  by_cases hx : x = 0#w
  · rw [lzShared, lz, lz, if_pos hx, if_pos ((zext64_eq_zero_iff x hw).mpr hx)]
    omega
  · obtain ⟨hlt, -, -⟩ := msbIndex_spec hx
    rw [lzShared, lz, lz, if_neg hx, if_neg (mt (zext64_eq_zero_iff x hw).mp hx), msbIndex_zext64 hw hx]
    omega

/-- R86: the 64-bit trailing-zero count, clamped for the operand 0. -/
theorem tzShared_eq_tz : tzShared x = tz x := by
  by_cases hx : x = 0#w
  · rw [tzShared, tz, tz, if_pos hx, if_pos ((zext64_eq_zero_iff x hw).mpr hx)]
    omega
  · obtain ⟨hlt, -, -⟩ := lsbIndex_spec hx
    rw [tzShared, tz, tz, if_neg hx, if_neg (mt (zext64_eq_zero_iff x hw).mp hx), lsbIndex_zext64 hw hx]
    omega

/-- R86: the zero bits of the extension add nothing to the population count. -/
theorem popShared_eq_pop : popShared x = pop x :=
  (onesBelow_zext64 x hw 64).trans (onesBelow_eq_pop x hw)

/-- R86: the extension has the bit length of the value. -/
theorem lenShared_eq_len : lenShared x = len x := by
  by_cases hx : x = 0#w
  · rw [lenShared, len, len, if_pos hx, if_pos ((zext64_eq_zero_iff x hw).mpr hx)]
  · rw [lenShared, len, len, if_neg hx, if_neg (mt (zext64_eq_zero_iff x hw).mp hx), msbIndex_zext64 hw hx]

/-- R86: the 64-bit reversal leaves the reversed value in its high bits. -/
theorem revShared_eq_rev : revShared x = rev x := by
  refine BitVec.eq_of_getLsbD_eq fun i hi => ?_
  have hin : 64 - w + i < 64 := by omega
  have hpos : 64 - 1 - (64 - w + i) = w - 1 - i := by omega
  simp only [revShared, BitVec.getLsbD_setWidth, BitVec.getLsbD_ushiftRight, getLsbD_rev, getLsbD_zext64 x hw, hi, hin,
    hpos, decide_true, Bool.true_and]

end Extension

/-- R86: the 64-bit byte reversal leaves the reversed value in its high bytes. -/
theorem revbShared_eq_revb {n : Nat} (x : BitVec (8 * n)) (hn : n ≤ 8) : revbShared x = revb x := by
  have hw : 8 * n ≤ 64 := by omega
  refine BitVec.eq_of_getLsbD_eq fun i hi => ?_
  have hin : 64 - 8 * n + i < 64 := by omega
  have hpos : 8 * (64 / 8 - 1 - (64 - 8 * n + i) / 8) + (64 - 8 * n + i) % 8 =
      8 * (8 * n / 8 - 1 - i / 8) + i % 8 := by omega
  simp only [revbShared, BitVec.getLsbD_setWidth, BitVec.getLsbD_ushiftRight, getLsbD_revb,
    getLsbD_zext64 x hw, hi, hin, hpos, decide_true, Bool.true_and]

end Sys2Proof.Machine
end

section
/-! PROOFS. The statements of spec/40_adapters.md. -/

namespace Sys2Proof.Proofs

open Sys2Proof.Machine Sys2Proof.Safety

/-- Settles O8: a legal select samples what the pseudocode drives, and an illegal one is the fault. -/
theorem stepIsTheCombinationalFunction : Obligations.StepIsTheCombinationalFunction := by
  intro s
  have hill : (outputs s.inputs).ill = 1#1 ↔ isIllegal s.ctl = true := illOf_eq_one_iff s.ctl
  refine ⟨?_, hill⟩
  cases h : isIllegal s.ctl with
  | true => rw [if_pos (hill.mpr h), step_of_isIllegal h]
  | false =>
    obtain ⟨i, hdec⟩ := exists_decode_eq_ok h
    have hzero : illOf s.ctl = 0#1 := by simp [illOf, h]
    rw [if_neg (by simp [hill, h]), step_eq_sample_driven hdec, ← hzero]
    rfl

/-- Settles O15: the pseudocode's entry for an instruction reads no other bits of the ports. -/
theorem resultIgnoresUnselectedBits : Obligations.ResultIgnoresUnselectedBits := by
  intro i s s' hn ha hk
  refine ⟨_, _, _, exec_eq_familyResult i s, exec_eq_familyResult i s', rfl, ?_⟩
  rw [State.sample_sampled, ← hn,
    familyResult_congr ha fun h => toInt_modEq_toInt (widthBits_dvd_two_pow _) (hk h)]

/-- Settles O16: a result is a widened count of at most `W`, or a widened `W`-bit value. -/
theorem resultFitsItsWidth : Obligations.ResultFitsItsWidth := by
  intro i s
  refine ⟨_, _, exec_eq_familyResult i s, rfl, fun h => ?_, fun h => ?_⟩
  · obtain ⟨c, hc, hres⟩ := familyResult_of_isCounting h (widthBits (instrWidth s.nativeW i)) s.a s.k
    rw [hres]
    exact ⟨(widenCount_toNat_le c).trans hc, zext64_ushiftRight_self _⟩
  · obtain ⟨v, hres⟩ := familyResult_of_not_isCounting h (widthBits (instrWidth s.nativeW i)) s.a s.k
    rw [hres]
    exact zext64_ushiftRight_self v

/-- Settles O17, from what the expansion keeps: the meaning, the family and the width. -/
theorem nativeDispatch : Obligations.NativeDispatch := by
  intro i s
  refine ⟨(exec_resolve i s).symm, instrFamily_resolve _ i, fun h => ?_, fun h => resolve_of_wf h _⟩
  rw [instrWidth_resolve, instrWidth_of_not_wf h, widthBits_nativeWidth]

/-- Settles O41, one adapter identity at a time. -/
theorem widthAdaptersShareOneEngine : Obligations.WidthAdaptersShareOneEngine :=
  ⟨fun _ x hw => ⟨lzShared_eq_lz x hw, tzShared_eq_tz x hw, popShared_eq_pop x hw, lenShared_eq_len x hw,
    revShared_eq_rev x hw⟩, fun _ x hn => revbShared_eq_revb x hn⟩

/-- Settles O48, by induction on the evaluations: each one starts from whatever state the one before it left. -/
theorem resultsDependOnNoEarlierEvaluation : Obligations.ResultsDependOnNoEarlierEvaluation := by
  intro ps s hsafe
  induction ps generalizing s with
  | nil => rfl
  | cons p ps ih =>
    obtain ⟨hp, hps⟩ := List.forall_mem_cons.mp hsafe
    obtain ⟨i, hdec⟩ := exists_decode_eq_ok hp
    rw [session_answers_of_decode_eq_ok hdec, ih _ hps, List.map_cons]

/-- Settles O53: both states drive the same outputs, and a step on a legal select samples them. -/
theorem stepDependsOnlyOnTheSelectedPorts : Obligations.StepDependsOnlyOnTheSelectedPorts := by
  intro s s' hctl
  refine ⟨fun i hdec ha hk => ?_, fun hill => ?_⟩
  · have hdec' : decode s'.ctl = .ok i := hctl ▸ hdec
    have hwidth : instrWidth s'.nativeW i = instrWidth s.nativeW i :=
      (instrWidth_of_decode_eq_ok hdec' _).trans (hctl ▸ (instrWidth_of_decode_eq_ok hdec _).symm)
    have hdriven : s'.driven = s.driven := by
      rw [State.driven_of_decode_eq_ok hdec, State.driven_of_decode_eq_ok hdec', hwidth,
        familyResult_congr ha fun h => by rw [hk h]]
    exact ⟨_, _, s.driven, step_eq_sample_driven hdec, step_eq_sample_driven hdec', rfl, congrArg some hdriven, rfl,
      hdriven⟩
  · have hill' : isIllegal s'.ctl = true := hctl ▸ hill
    rw [State.driven_of_isIllegal hill, State.driven_of_isIllegal hill']

/-- Settles O9, for every `a` and `k`. -/
theorem illegalSelectDrivesZero : Obligations.IllegalSelectDrivesZero :=
  fun p s h => ⟨outputs_of_isIllegal h, step_of_isIllegal (s := s.present p) h⟩

end Sys2Proof.Proofs
end

section
/-! SUPPORT. The zero counts by position: at 0, at a value whose outermost set bit is known, and read off a field with
no set bit outside it on the side counted from (spec/41_leading_zeros.md R100 to R102 and R108, spec/42_trailing_zeros.md
R120 and R122, spec/47_len.md R231). -/

namespace Sys2Proof.Machine

/-- R100: the leading-zero count of 0 is the width. -/
@[simp] theorem lz_zero (w : Nat) : lz 0#w = w := if_pos rfl

/-- R120: the trailing-zero count of 0 is the width. -/
@[simp] theorem tz_zero (w : Nat) : tz 0#w = w := if_pos rfl

section Position

variable {w : Nat} {x : BitVec w} {m : Nat}

/-- A value with a set bit is not 0. -/
theorem ne_zero_of_getLsbD (hset : x.getLsbD m = true) : x ≠ 0#w := by
  rintro rfl
  simp at hset

/-- R100: the count is the distance of the highest set bit from the top. -/
theorem lz_eq_of_highest (hset : x.getLsbD m = true) (habove : ∀ i, m < i → i < w → x.getLsbD i = false) :
    lz x = w - 1 - m := by
  rw [lz, if_neg (ne_zero_of_getLsbD hset), msbIndex_eq hset fun i hi => ?_]
  by_cases hw : i < w
  · exact habove i hi hw
  · exact BitVec.getLsbD_of_ge x i (not_lt.mp hw)

/-- R120: the count is the position of the lowest set bit. -/
theorem tz_eq_of_lowest (hset : x.getLsbD m = true) (hbelow : ∀ i, i < m → x.getLsbD i = false) : tz x = m := by
  rw [tz, if_neg (ne_zero_of_getLsbD hset), lsbIndex_eq hset hbelow]

end Position

/-- R100: from the top down there are `lz x` clear bits, and the next one, if there is one, is set. -/
theorem lz_spec {w : Nat} (x : BitVec w) :
    (∀ i, i < lz x → x.getLsbD (w - 1 - i) = false) ∧ (lz x < w → x.getLsbD (w - 1 - lz x) = true) := by
  by_cases hx : x = 0#w
  · subst hx; simp
  · obtain ⟨hlt, hset, habove⟩ := msbIndex_spec hx
    have hlz : lz x = w - 1 - msbIndex x := lz_eq_of_highest hset fun i hi _ => habove i hi
    have hback : w - 1 - lz x = msbIndex x := by omega
    exact ⟨fun i hi => habove _ (by omega), fun _ => hback ▸ hset⟩

section Field

variable {w : Nat} {x : BitVec w} {p l : Nat}

/-- A field that is 0 has no set bit. -/
theorem getLsbD_of_extractLsb'_eq_zero (h : x.extractLsb' p l = 0#l) {i : Nat} (hp : p ≤ i) (hl : i < p + l) :
    x.getLsbD i = false := by
  have hbit := BitVec.zero_iff_eq_false.mp h (i - p)
  rwa [BitVec.getLsbD_extractLsb', decide_eq_true (by omega : i - p < l), Bool.true_and,
    Nat.add_sub_cancel' hp] at hbit

/-- R101, R102: with no set bit above a field that is not 0, the leading zeros are the bits above it and its own. -/
theorem lz_eq_add_lz_extractLsb' (hfield : x.extractLsb' p l ≠ 0#l) (hpl : p + l ≤ w)
    (habove : ∀ i, p + l ≤ i → i < w → x.getLsbD i = false) : lz x = w - (p + l) + lz (x.extractLsb' p l) := by
  obtain ⟨hlt, hset, hclear⟩ := msbIndex_spec hfield
  rw [lz_eq_of_highest hset fun i hi _ => hclear i hi]
  simp only [BitVec.getLsbD_extractLsb', hlt, decide_true, Bool.true_and] at hset hclear
  rw [lz_eq_of_highest hset fun i hi hw => ?_]
  · omega
  · by_cases hi' : p + l ≤ i
    · exact habove i hi' hw
    · simpa [show i - p < l by omega, show p + (i - p) = i by omega] using hclear (i - p) (by omega)

/-- R121, R122: with no set bit below a field that is not 0, the trailing zeros are the bits below it and its own. -/
theorem tz_eq_add_tz_extractLsb' (hfield : x.extractLsb' p l ≠ 0#l)
    (hbelow : ∀ i, i < p → x.getLsbD i = false) : tz x = p + tz (x.extractLsb' p l) := by
  obtain ⟨hlt, hset, hclear⟩ := lsbIndex_spec hfield
  rw [tz_eq_of_lowest hset hclear]
  simp only [BitVec.getLsbD_extractLsb', hlt, decide_true, Bool.true_and] at hset hclear
  refine tz_eq_of_lowest hset fun i hi => ?_
  by_cases hi' : i < p
  · exact hbelow i hi'
  · simpa [show i - p < l by omega, show p + (i - p) = i by omega] using hclear (i - p) (by omega)

end Field

/-- R101: with no set bit from byte `r` up, the scan of the `r` bytes below gives the reference count. -/
theorem lzScanFrom_eq_lz {n : Nat} (x : BitVec (8 * n)) {r : Nat} (hr : r ≤ n)
    (habove : ∀ i, 8 * r ≤ i → i < 8 * n → x.getLsbD i = false) : lzScanFrom x r = lz x := by
  induction r with
  | zero =>
    have hx : x = 0#(8 * n) :=
      BitVec.eq_of_getLsbD_eq fun i hi => by rw [habove i (by omega) hi, BitVec.getLsbD_zero]
    rw [hx, lz_zero, lzScanFrom]
  | succ r ih =>
    rw [lzScanFrom]
    split
    next hbyte =>
      rw [lutLz8_toNat, lz_eq_add_lz_extractLsb' hbyte (by omega) habove, byteAt]
      omega
    next hbyte =>
      refine ih (by omega) fun i hi hw => ?_
      by_cases hi' : 8 * (r + 1) ≤ i
      · exact habove i hi' hw
      · exact getLsbD_of_extractLsb'_eq_zero (not_not.mp hbyte) hi (by omega)

/-- R101: the byte scan over the ROM. -/
theorem lzScan_eq_lz {n : Nat} (x : BitVec (8 * n)) : lzScan x = lz x :=
  lzScanFrom_eq_lz x (by omega) fun i hi hw => by omega

/-- A 64-bit value is 0 when both its halves are. -/
theorem eq_zero_of_halves {x : BitVec 64} (hlo : x.extractLsb' 0 32 = 0#32) (hhi : x.extractLsb' 32 32 = 0#32) :
    x = 0#64 := by
  refine BitVec.eq_of_getLsbD_eq fun i hi => ?_
  rw [BitVec.getLsbD_zero]
  by_cases hi' : i < 32
  · exact getLsbD_of_extractLsb'_eq_zero hlo (Nat.zero_le i) (by omega)
  · exact getLsbD_of_extractLsb'_eq_zero hhi (by omega) hi

/-- R102: the detector of two halves, the high one examined first. -/
theorem lzSplit_eq_lz (x : BitVec 64) : lzSplit x = lz x := by
  unfold lzSplit
  split
  next hhi =>
    rw [lz_eq_add_lz_extractLsb' hhi (by decide) fun i hi hw => absurd hw (not_lt.mpr hi), Nat.sub_self, Nat.zero_add]
  next hhi =>
    have hhi := not_not.mp hhi
    by_cases hlo : x.extractLsb' 0 32 = 0#32
    · rw [hlo, eq_zero_of_halves hlo hhi, lz_zero, lz_zero]
    · exact (lz_eq_add_lz_extractLsb' hlo (by decide) fun _ hi hw =>
        getLsbD_of_extractLsb'_eq_zero hhi hi hw).symm

/-- R122: the detector of two halves, the low one examined first. -/
theorem tzSplit_eq_tz (x : BitVec 64) : tzSplit x = tz x := by
  unfold tzSplit
  split
  next hlo => rw [tz_eq_add_tz_extractLsb' hlo fun i hi => absurd hi (Nat.not_lt_zero i), Nat.zero_add]
  next hlo =>
    have hlo := not_not.mp hlo
    by_cases hhi : x.extractLsb' 32 32 = 0#32
    · rw [hhi, eq_zero_of_halves hlo hhi, tz_zero, tz_zero]
    · exact (tz_eq_add_tz_extractLsb' hhi fun i hi =>
        getLsbD_of_extractLsb'_eq_zero hlo (Nat.zero_le i) (by omega)).symm

/-- R197: the reversal of 0. -/
@[simp] theorem rev_zero (w : Nat) : rev 0#w = 0#w :=
  BitVec.zero_iff_eq_false.mpr fun i => by simp

/-- R108: the reversal turns the highest set bit into the lowest. -/
theorem tz_rev {w : Nat} (x : BitVec w) : tz (rev x) = lz x := by
  by_cases hx : x = 0#w
  · rw [hx, rev_zero, tz_zero, lz_zero]
  · obtain ⟨hlt, hset, habove⟩ := msbIndex_spec hx
    rw [lz_eq_of_highest hset fun i hi _ => habove i hi]
    refine tz_eq_of_lowest ?_ fun i hi => ?_
    · have hback : w - 1 - (w - 1 - msbIndex x) = msbIndex x := by omega
      rw [getLsbD_rev, hback, hset, decide_eq_true (by omega), Bool.true_and]
    · rw [getLsbD_rev, habove _ (by omega), Bool.and_false]

/-- R231: the bit length is what the leading zeros leave of the width. -/
theorem lz_add_len {w : Nat} (x : BitVec w) : lz x + len x = w := by
  by_cases hx : x = 0#w
  · rw [hx, lz_zero, len, if_pos rfl, Nat.add_zero]
  · obtain ⟨hlt, -, -⟩ := msbIndex_spec hx
    rw [lz, len, if_neg hx, if_neg hx]
    omega

/-- R231: the bit length from the leading-zero detector. -/
theorem len_eq_sub_lz {w : Nat} (x : BitVec w) : len x = w - lz x :=
  Nat.eq_sub_of_add_eq' (lz_add_len x)

end Sys2Proof.Machine
end

section
/-! SUPPORT. Counts on the result port (spec/30_encoding.md R69): a reference count of a width up to 64 is sampled as it
is, for every counting family. -/

namespace Sys2Proof

/-- R6: the native width is at most 64. -/
theorem NativeWidth.bits_le (n : NativeWidth) : n.bits ≤ 64 := by
  cases n <;> decide

end Sys2Proof

namespace Sys2Proof.Machine

/-- R69: a count of at most 64 fits the seven bits that the result port keeps of it. -/
theorem widenCount_eq_ofNat {c : Nat} (hc : c ≤ 64) : widenCount c = BitVec.ofNat 64 c := by
  have hmod : c % 2 ^ 7 = c := Nat.mod_eq_of_lt (by omega)
  refine BitVec.eq_of_toNat_eq ?_
  rw [widenCount, zext64, BitVec.toNat_setWidth, BitVec.toNat_ofNat, BitVec.toNat_ofNat, hmod]

/-- R69, R81: a count of at most 64 is sampled as it is, and nothing else changes. -/
theorem driveCount_eq_ofNat {c : Nat} (hc : c ≤ 64) (s : State) :
    driveCount c s = .next { s with sampled := some { res := BitVec.ofNat 64 c, ill := 0#1 } } := by
  rw [← widenCount_eq_ofNat hc]; rfl

/-- R103: a count that stands in an entry of a count field of the ROM is sampled as that entry. -/
theorem driveCount_eq_entry {c : Nat} {e : BitVec 4} (he : e.toNat = c) (s : State) :
    driveCount c s = .next { s with sampled := some { res := e.setWidth 64, ill := 0#1 } } := by
  rw [driveCount_eq_ofNat (by omega), ← he, BitVec.ofNat_toNat]

/-- R100: the reference count of `a[W-1:0]` is what both forms of the definition say of `a`. -/
theorem isLeadingZeroCount_lz (W : Nat) (a : Word) : Safety.IsLeadingZeroCount W a (lz (a.setWidth W)) := by
  have hbit (i : Nat) (hi : i < W) : (a.setWidth W).getLsbD i = a.getLsbD i := by simp [hi]
  have hle := lz_le (a.setWidth W)
  obtain ⟨hclear, hset⟩ := lz_spec (a.setWidth W)
  refine ⟨hle, fun hzero => ?_, fun m hm hm1 habove => ?_, fun i hi => ?_, fun hlt => ?_⟩
  · have hx : a.setWidth W = 0#W :=
      BitVec.eq_of_getLsbD_eq fun i hi => by rw [hbit i hi, hzero i hi, BitVec.getLsbD_zero]
    rw [hx, lz_zero]
  · exact lz_eq_of_highest ((hbit m hm).trans hm1) fun i hi hw => (hbit i hw).trans (habove i hi hw)
  · exact (hbit _ (by omega)).symm.trans (hclear i hi)
  · exact (hbit _ (by omega)).symm.trans (hset hlt)

/-- R100, R107: the outcome that the LeadingZeros meanings of every width share. -/
theorem driveCount_lz_operand {W : Nat} (hW : W ≤ 64) (s : State) :
    ∃ c, Safety.IsLeadingZeroCount W s.a c ∧
      driveCount (lz (operand W s)) s = .next { s with sampled := some { res := BitVec.ofNat 64 c, ill := 0#1 } } :=
  ⟨lz (operand W s), isLeadingZeroCount_lz W s.a, driveCount_eq_ofNat ((lz_le _).trans hW) s⟩

end Sys2Proof.Machine
end

section
/-! PROOFS. The statements of spec/41_leading_zeros.md. -/

namespace Sys2Proof.Proofs

open Sys2Proof.Machine Sys2Proof.Safety

/-- Settles O19: the meaning of each form drives the reference count of its width. -/
theorem leadingZerosResult : Obligations.LeadingZerosResult := by
  refine ⟨rfl, rfl, rfl, rfl, rfl, rfl, fun s p hp => ?_⟩
  simp only [List.mem_cons, List.not_mem_nil, or_false] at hp
  obtain rfl | rfl | rfl | rfl | rfl := hp
  · exact driveCount_lz_operand (W := 8) (by decide) s
  · exact driveCount_lz_operand (W := 16) (by decide) s
  · exact driveCount_lz_operand (W := 32) (by decide) s
  · exact driveCount_lz_operand (W := 64) (by decide) s
  · exact driveCount_lz_operand s.nativeW.bits_le s

/-- Settles O27: at width 8 the reference functions are the ROM's fields. -/
theorem eightBitSelectsReadOneTableEntry : Obligations.EightBitSelectsReadOneTableEntry := by
  refine ⟨rfl, rfl, fun s => ?_⟩
  have hrev := lutRev8_eq_rev (s.a.setWidth 8)
  refine ⟨lutLz8_toNat _, hrev, driveCount_eq_entry (lutLz8_toNat _) s, driveCount_eq_entry (lutTz8_toNat _) s,
    driveCount_eq_entry (lutPop8_toNat _) s, ?_⟩
  rw [hrev]; rfl

/-- Settles O29, from the scan of the bytes below one that has only zeros above it. -/
theorem leadingByteScanIsTheReference : Obligations.LeadingByteScanIsTheReference :=
  fun _ x => lzScan_eq_lz x

/-- Settles O31: the half that decides the count is a field with no set bit on the side counted from. -/
theorem splitDetectorsAreTheReference : Obligations.SplitDetectorsAreTheReference :=
  fun x => ⟨lzSplit_eq_lz x, tzSplit_eq_tz x⟩

/-- Settles O42: both laws are about the position of the highest set bit, and the byte scan gives the same count. -/
theorem leadingTrailingLengthLaws : Obligations.LeadingTrailingLengthLaws :=
  ⟨fun _ x => ⟨(tz_rev x).symm, len_eq_sub_lz x, lz_add_len x⟩,
    fun _ x => by rw [lenByScan, lzScan_eq_lz, len_eq_sub_lz]⟩

end Sys2Proof.Proofs
end

section
/-! SUPPORT. The trailing-zero count by position, by the byte scan over the ROM and by the De Bruijn lookup
(spec/42_trailing_zeros.md R120, R121 and R123). -/

namespace Sys2Proof.Machine

/-- R120: from bit 0 up there are `tz x` clear bits, and the next one, if there is one, is set. -/
theorem tz_spec {w : Nat} (x : BitVec w) :
    (∀ i, i < tz x → x.getLsbD i = false) ∧ (tz x < w → x.getLsbD (tz x) = true) := by
  by_cases hx : x = 0#w
  · subst hx; simp
  · obtain ⟨-, hset, hbelow⟩ := lsbIndex_spec hx
    rw [tz_eq_of_lowest hset hbelow]
    exact ⟨hbelow, fun _ => hset⟩

/-- R120: the reference count of `a[W-1:0]` is what the definition says of `a`. -/
theorem isTrailingZeroCount_tz (W : Nat) (a : Word) : Safety.IsTrailingZeroCount W a (tz (a.setWidth W)) := by
  have hbit (i : Nat) (hi : i < W) : (a.setWidth W).getLsbD i = a.getLsbD i := by simp [hi]
  have hle := tz_le (a.setWidth W)
  obtain ⟨hclear, hnext⟩ := tz_spec (a.setWidth W)
  have hset (hlt : tz (a.setWidth W) < W) : a.getLsbD (tz (a.setWidth W)) = true := (hbit _ hlt).symm.trans (hnext hlt)
  refine ⟨hle, fun hzero => ?_, fun i hi => (hbit i (hi.trans_le hle)).symm.trans (hclear i hi), hset⟩
  by_contra hne
  have hlt := hle.lt_of_ne hne
  exact Bool.false_ne_true ((hzero _ hlt).symm.trans (hset hlt))

/-- R120, R128: the outcome that the TrailingZeros meanings of every width share. -/
theorem driveCount_tz_operand {W : Nat} (hW : W ≤ 64) (s : State) :
    ∃ c, Safety.IsTrailingZeroCount W s.a c ∧
      driveCount (tz (operand W s)) s = .next { s with sampled := some { res := BitVec.ofNat 64 c, ill := 0#1 } } :=
  ⟨tz (operand W s), isTrailingZeroCount_tz W s.a, driveCount_eq_ofNat ((tz_le _).trans hW) s⟩

/-- R121: with no set bit below byte `t`, the scan of the `r` bytes from there to the top gives the reference count. -/
theorem tzScanFrom_eq_tz {n t r : Nat} (x : BitVec (8 * n)) (htr : t + r = n)
    (hbelow : ∀ i, i < 8 * t → x.getLsbD i = false) : tzScanFrom x t r = tz x := by
  induction r generalizing t with
  | zero =>
    have hx : x = 0#(8 * n) :=
      BitVec.eq_of_getLsbD_eq fun i hi => by rw [hbelow i (by omega), BitVec.getLsbD_zero]
    rw [hx, tz_zero, tzScanFrom]
  | succ r ih =>
    rw [tzScanFrom]
    split
    next hbyte => rw [lutTz8_toNat, tz_eq_add_tz_extractLsb' hbyte hbelow, byteAt]
    next hbyte =>
      refine ih (by omega) fun i hi => ?_
      by_cases hi' : i < 8 * t
      · exact hbelow i hi'
      · exact getLsbD_of_extractLsb'_eq_zero (not_not.mp hbyte) (not_lt.mp hi') (by omega)

/-- R121: the byte scan over the ROM. -/
theorem tzScan_eq_tz {n : Nat} (x : BitVec (8 * n)) : tzScan x = tz x :=
  tzScanFrom_eq_tz x (by omega) fun i hi => absurd hi (Nat.not_lt_zero i)

/-- R123: a bit of `z & -z` is a set bit of `z` with no set bit below it, because the negation flips exactly the bits
above the lowest set one. -/
theorem getLsbD_isolateLowest (z : Word) (i : Nat) :
    (isolateLowest z).getLsbD i = (z.getLsbD i && !decide (∃ j < i, z.getLsbD j = true)) := by
  rw [isolateLowest, BitVec.zero_sub, BitVec.getLsbD_and, BitVec.getLsbD_neg]
  cases hi : z.getLsbD i with
  | false => rfl
  | true => simp [BitVec.lt_of_getLsbD hi]

/-- R123: the isolating step keeps the lowest set bit alone. -/
theorem isolateLowest_eq_two_pow {z : Word} (hz : z ≠ 0#64) :
    isolateLowest z = BitVec.ofNat 64 (2 ^ lsbIndex z) := by
  obtain ⟨-, hset, hbelow⟩ := lsbIndex_spec hz
  refine BitVec.eq_of_getLsbD_eq fun i hi => ?_
  rw [getLsbD_isolateLowest, BitVec.getLsbD_ofNat, Nat.testBit_two_pow, decide_eq_true hi, Bool.true_and]
  rcases Nat.lt_trichotomy i (lsbIndex z) with h | rfl | h
  · simp [hbelow i h, h.ne']
  · simpa [hset] using hbelow
  · have hlower : ∃ j < i, z.getLsbD j = true := ⟨lsbIndex z, h, hset⟩
    simp [hlower, h.ne]

/-- R46, R123: the index lookup of the isolated bit is the position of the lowest set bit. -/
theorem dbIndexOf_isolateLowest (b : DeBruijnConstant) {z : Word} (hz : z ≠ 0#64) :
    (dbIndexOf b (isolateLowest z)).toNat = lsbIndex z := by
  obtain ⟨hlt, -, -⟩ := lsbIndex_spec hz
  rw [isolateLowest_eq_two_pow hz, dbIndexOf_two_pow, dbPos_deBruijnIndex b hlt]

/-- R123: the De Bruijn path, with any legal constant. -/
theorem tzDeBruijn_eq_tz (b : DeBruijnConstant) {w : Nat} (x : BitVec w) (hw : w ≤ 64) : tzDeBruijn b x = tz x := by
  by_cases hx : x = 0#w
  · rw [tzDeBruijn, tz, if_pos hx, if_pos hx]
  · rw [tzDeBruijn, tz, if_neg hx, if_neg hx, dbIndexOf_isolateLowest b (mt (zext64_eq_zero_iff x hw).mp hx),
      lsbIndex_zext64 hw hx]

/-- R123: the path of this BCU is the one with the constant it was built with. -/
theorem tzLookup_eq_tzDeBruijn {w : Nat} (x : BitVec w) : tzLookup x = tzDeBruijn Config.dbB x := rfl

end Sys2Proof.Machine
end

section
/-! PROOFS. The statements of spec/42_trailing_zeros.md. -/

namespace Sys2Proof.Proofs

open Sys2Proof.Machine Sys2Proof.Safety

/-- Settles O20: the meaning of each form drives the reference count of its width. -/
theorem trailingZerosResult : Obligations.TrailingZerosResult := by
  refine ⟨rfl, rfl, rfl, rfl, rfl, rfl, fun s p hp => ?_⟩
  simp only [List.mem_cons, List.not_mem_nil, or_false] at hp
  obtain rfl | rfl | rfl | rfl | rfl := hp
  · exact driveCount_tz_operand (W := 8) (by decide) s
  · exact driveCount_tz_operand (W := 16) (by decide) s
  · exact driveCount_tz_operand (W := 32) (by decide) s
  · exact driveCount_tz_operand (W := 64) (by decide) s
  · exact driveCount_tz_operand s.nativeW.bits_le s

/-- Settles O30, from the scan of the bytes above those that are known to be zero. -/
theorem trailingByteScanIsTheReference : Obligations.TrailingByteScanIsTheReference :=
  fun _ x => tzScan_eq_tz x

/-- Settles O34: the lookup finds the position of the isolated bit with every legal constant, the built one among
them. -/
theorem deBruijnPathIsTheReference : Obligations.DeBruijnPathIsTheReference :=
  fun _ x hw => ⟨fun b => tzDeBruijn_eq_tz b x hw, (tzLookup_eq_tzDeBruijn x).trans (tzDeBruijn_eq_tz _ x hw)⟩

end Sys2Proof.Proofs
end

section
/-! SUPPORT. The population count as a count of positions, as a sum over bytes of the ROM's counts, and as the number of
passes of the clearing loop (spec/43_ones_count.md R140 and R141). -/

namespace Sys2Proof.Machine

/-- R140: the sum of the bits below `n`, written as a sum over the positions. -/
theorem onesBelow_eq_sum {w : Nat} (x : BitVec w) (n : Nat) :
    onesBelow x n = ((List.range n).map fun i => (x.getLsbD i).toNat).sum := by
  induction n with
  | zero => rfl
  | succ n ih => rw [onesBelow, ih, List.sum_range_succ]

/-- R140: the sum of the bits below `n` is the number of positions below `n` that hold a 1. -/
theorem onesBelow_eq_countP {w : Nat} (x : BitVec w) (n : Nat) :
    onesBelow x n = (List.range n).countP fun i => x.getLsbD i := by
  induction n with
  | zero => rfl
  | succ n ih => cases h : x.getLsbD n <;> simp [onesBelow, ih, List.range_succ, h]

/-- R140: the reference count of `a[W-1:0]` is the number of its positions that hold a 1. -/
theorem isOnesCount_pop (W : Nat) (a : Word) : Safety.IsOnesCount W a (pop (a.setWidth W)) :=
  (onesBelow_eq_countP _ W).trans <| List.countP_congr fun i hi => by simp [List.mem_range.mp hi]

/-- R140, R147: the outcome that the OnesCount meanings of every width share. -/
theorem driveCount_pop_operand {W : Nat} (hW : W ≤ 64) (s : State) :
    ∃ c, Safety.IsOnesCount W s.a c ∧
      driveCount (pop (operand W s)) s = .next { s with sampled := some { res := BitVec.ofNat 64 c, ill := 0#1 } } :=
  ⟨pop (operand W s), isOnesCount_pop W s.a, driveCount_eq_ofNat ((pop_le _).trans hW) s⟩

/-- The bits of a field add to the bits below it. -/
theorem onesBelow_add {w : Nat} (x : BitVec w) (p l : Nat) :
    onesBelow x (p + l) = onesBelow x p + pop (x.extractLsb' p l) := by
  have hprefix : ∀ m ≤ l, onesBelow x (p + m) = onesBelow x p + onesBelow (x.extractLsb' p l) m := by
    intro m hm
    induction m with
    | zero => rfl
    | succ m ih =>
      have hbit : (x.extractLsb' p l).getLsbD m = x.getLsbD (p + m) := by simp [Nat.lt_of_succ_le hm]
      rw [← Nat.add_assoc, onesBelow, onesBelow, ih (by omega), hbit, Nat.add_assoc]
  exact hprefix l le_rfl

/-- Sums over the bytes agree when they agree on each byte. -/
theorem sumBytes_congr {v w : Nat} {f g : Byte → Nat} {x : BitVec v} {y : BitVec w} {n : Nat}
    (h : ∀ j < n, f (byteAt x j) = g (byteAt y j)) : sumBytes f x n = sumBytes g y n := by
  induction n with
  | zero => rfl
  | succ n ih => rw [sumBytes, sumBytes, ih fun j hj => h j (by omega), h n (by omega)]

/-- R141: the population counts of the `n` low bytes add to the count of their bits. -/
theorem sumBytes_pop {w : Nat} (x : BitVec w) (n : Nat) : sumBytes pop x n = onesBelow x (8 * n) := by
  induction n with
  | zero => rfl
  | succ n ih => rw [sumBytes, ih, Nat.mul_succ, onesBelow_add, byteAt]

/-- R141: a sum over the bytes of their population counts, by whatever circuit, is the reference count. -/
theorem sumBytes_eq_pop {n : Nat} {f : Byte → Nat} {x y : BitVec (8 * n)}
    (h : ∀ j < n, f (byteAt y j) = pop (byteAt x j)) : sumBytes f y (8 * n / 8) = pop x := by
  rw [Nat.mul_div_cancel_left n (by decide), sumBytes_congr h, sumBytes_pop, pop]

/-- R141: the sum of the ROM's counts. -/
theorem popTable_eq_pop {n : Nat} (x : BitVec (8 * n)) : popTable x = pop x :=
  sumBytes_eq_pop fun j _ => lutPop8_toNat (byteAt x j)

/-- R140: a pass keeps the set bits that have a set bit below them, because the subtraction of 1 flips exactly the bits
up to the lowest set one. -/
theorem getLsbD_clearLowest {w : Nat} (x : BitVec w) (i : Nat) :
    (clearLowest x).getLsbD i = (x.getLsbD i && decide (∃ j < i, x.getLsbD j = true)) := by
  rw [clearLowest, ← BitVec.not_neg, BitVec.getLsbD_and, BitVec.getLsbD_not, BitVec.getLsbD_neg]
  cases hi : x.getLsbD i with
  | false => rfl
  | true => simp [BitVec.lt_of_getLsbD hi]

section ClearingLoop

variable {w : Nat} {x : BitVec w}

/-- R140: a pass clears the lowest set bit and no other. -/
theorem getLsbD_clearLowest_of_ne_zero (hx : x ≠ 0#w) (i : Nat) :
    (clearLowest x).getLsbD i = (x.getLsbD i && decide (i ≠ lsbIndex x)) := by
  obtain ⟨-, hset, hbelow⟩ := lsbIndex_spec hx
  rw [getLsbD_clearLowest]
  rcases Nat.lt_trichotomy i (lsbIndex x) with h | rfl | h
  · simp [hbelow i h]
  · simpa [hset] using hbelow
  · have hlower : ∃ j < i, x.getLsbD j = true := ⟨lsbIndex x, h, hset⟩
    simp [hlower, h.ne']

/-- R140: a pass takes one from the sum of the bits below `n`, once `n` is above the lowest set bit. -/
theorem onesBelow_clearLowest (hx : x ≠ 0#w) (n : Nat) :
    onesBelow x n = onesBelow (clearLowest x) n + (decide (lsbIndex x < n)).toNat := by
  obtain ⟨-, hset, -⟩ := lsbIndex_spec hx
  induction n with
  | zero => rfl
  | succ n ih =>
    rw [onesBelow, onesBelow, ih, getLsbD_clearLowest_of_ne_zero hx]
    rcases Nat.lt_trichotomy n (lsbIndex x) with h | rfl | h
    · simp [h.ne, h.le, Nat.not_lt.mpr h]
    · simp [hset]
    · simp [h.ne', h, Nat.lt_succ_of_lt h]; omega

/-- R140: each pass takes one from the population count. -/
theorem pop_eq_pop_clearLowest_succ (hx : x ≠ 0#w) : pop x = pop (clearLowest x) + 1 := by
  obtain ⟨hlt, -, -⟩ := lsbIndex_spec hx
  rw [pop, onesBelow_clearLowest hx, decide_eq_true hlt, Bool.toNat_true, pop]

end ClearingLoop

/-- R140: the population count of 0. -/
@[simp] theorem pop_zero (w : Nat) : pop 0#w = 0 := by
  rw [pop, onesBelow_eq_countP]; simp

/-- R140: only 0 has no set bit. -/
theorem pop_eq_zero_iff {w : Nat} {x : BitVec w} : pop x = 0 ↔ x = 0#w := by
  refine ⟨fun h => ?_, fun h => h ▸ pop_zero w⟩
  by_contra hx
  have := pop_eq_pop_clearLowest_succ hx
  omega

/-- R140: the loop is over after as many passes as there are set bits. -/
theorem clearLowestTimes_eq_zero {w n : Nat} {x : BitVec w} (h : pop x = n) : clearLowestTimes x n = 0#w := by
  induction n generalizing x with
  | zero => exact pop_eq_zero_iff.mp h
  | succ n ih =>
    have hx : x ≠ 0#w := fun hx => by simp [hx] at h
    have hpass := pop_eq_pop_clearLowest_succ hx
    exact ih (by omega)

/-- R140: the loop counts the set bits, when it is not cut off before it has cleared them all. -/
theorem popLoop_eq_pop {w fuel : Nat} {x : BitVec w} (h : pop x ≤ fuel) : popLoop x fuel = pop x := by
  induction fuel generalizing x with
  | zero => exact (Nat.le_zero.mp h).symm
  | succ fuel ih =>
    rw [popLoop]
    split
    next hx => rw [hx, pop_zero]
    next hx =>
      have hpass := pop_eq_pop_clearLowest_succ hx
      rw [ih (by omega), hpass]

end Sys2Proof.Machine
end

section
/-! SUPPORT. The SWAR reduction works on each byte alone (spec/43_ones_count.md R142): no step carries out of a byte or
borrows from one, and on one byte it gives the reference count. -/

namespace Sys2Proof.Machine

/-- R10: byte `j` of a value as a digit of it in base 256. -/
theorem toNat_byteAt {w : Nat} (x : BitVec w) (j : Nat) : (byteAt x j).toNat = x.toNat / 2 ^ (8 * j) % 256 := by
  rw [byteAt, BitVec.extractLsb'_toNat, Nat.shiftRight_eq_div_pow]

/-- A byte of a value shifted by half a byte has the high half of that byte below the low half of the next one. -/
theorem toNat_byteAt_ushiftRight_four {w : Nat} (x : BitVec w) (j : Nat) :
    (byteAt (x >>> 4) j).toNat = (byteAt x j).toNat / 16 + 16 * ((byteAt x (j + 1)).toNat % 16) := by
  rw [toNat_byteAt, toNat_byteAt, toNat_byteAt, BitVec.toNat_ushiftRight, Nat.shiftRight_eq_div_pow,
    Nat.div_right_comm, Nat.mul_succ, pow_add, ← Nat.div_div_eq_div_mul]
  omega

/-- When no two bytes overflow, the bytes below position `8 * j` carry nothing into it. -/
theorem mod_add_mod_lt_of_bytes {w : Nat} {x y : BitVec w} {j : Nat}
    (h : ∀ k < j, (byteAt x k).toNat + (byteAt y k).toNat < 256) :
    x.toNat % 2 ^ (8 * j) + y.toNat % 2 ^ (8 * j) < 2 ^ (8 * j) := by
  induction j with
  | zero => simp [Nat.mod_one]
  | succ j ih =>
    have hlow := ih fun k hk => h k (by omega)
    have hbyte := h j (by omega)
    rw [toNat_byteAt, toNat_byteAt] at hbyte
    have hsplit : 2 ^ (8 * (j + 1)) = 2 ^ (8 * j) * 256 := by rw [Nat.mul_succ, pow_add]; rfl
    have hhigh := Nat.mul_le_mul_left (2 ^ (8 * j)) (Nat.le_of_lt_succ hbyte)
    rw [hsplit, Nat.mod_mul, Nat.mod_mul]
    linarith

section Bytes

variable {n j : Nat} (hj : j < n)
include hj

/-- Without carries between the bytes, a byte of a sum is the sum of the bytes. -/
theorem byteAt_add {x y : BitVec (8 * n)} (h : ∀ k < j, (byteAt x k).toNat + (byteAt y k).toNat < 256) :
    byteAt (x + y) j = byteAt x j + byteAt y j := by
  have hsplit : 2 ^ (8 * n) = 2 ^ (8 * j) * (256 * 2 ^ (8 * (n - j - 1))) := by
    rw [show 256 = 2 ^ 8 from rfl, ← pow_add, ← pow_add]
    congr 1
    omega
  refine BitVec.eq_of_toNat_eq ?_
  rw [BitVec.toNat_add, toNat_byteAt, toNat_byteAt, toNat_byteAt, BitVec.toNat_add, hsplit,
    Nat.mod_mul_right_div_self, Nat.mod_mul_right_mod, Nat.add_div_eq_of_add_mod_lt (mod_add_mod_lt_of_bytes h),
    Nat.add_mod]

/-- Without borrows between the bytes, a byte of a difference is the difference of the bytes. -/
theorem byteAt_sub {x y : BitVec (8 * n)} (h : ∀ k < j, (byteAt y k).toNat ≤ (byteAt x k).toNat) :
    byteAt (x - y) j = byteAt x j - byteAt y j := by
  induction j using Nat.strong_induction_on with
  | _ j ih =>
    have hcarry : ∀ k < j, (byteAt (x - y) k).toNat + (byteAt y k).toNat < 256 := fun k hk => by
      rw [ih k hk (by omega) fun i hi => h i (by omega), BitVec.toNat_sub_of_le (h k hk), Nat.sub_add_cancel (h k hk)]
      exact (byteAt x k).isLt
    have hsum : byteAt x j = byteAt (x - y) j + byteAt y j := by rw [← byteAt_add hj hcarry, BitVec.sub_add_cancel]
    rw [hsum, BitVec.add_sub_cancel]

section Mask

variable (hn : n ≤ 8) {m : Word} (hm : ∀ k < 8, byteAt m k = m.setWidth 8)
include hn hm

/-- R142: masking with a constant of eight equal bytes masks each byte with that byte. -/
theorem byteAt_and_mask (x : BitVec (8 * n)) :
    byteAt (x &&& m.setWidth (8 * n)) j = byteAt x j &&& m.setWidth 8 := by
  rw [← hm j (by omega), byteAt, BitVec.extractLsb'_and, BitVec.extractLsb'_setWidth_of_le (by omega)]
  rfl

/-- R142: a shift brings no bit of the next byte into a byte whose mask has none of its `d` top bits. -/
theorem byteAt_ushiftRight_and_mask {d : Nat} (hd : ∀ i < 8, 8 ≤ d + i → m.getLsbD i = false) (x : BitVec (8 * n)) :
    byteAt (x >>> d &&& m.setWidth (8 * n)) j = byteAt x j >>> d &&& m.setWidth 8 := by
  rw [byteAt_and_mask hj hn hm]
  refine BitVec.eq_of_getLsbD_eq fun i hi => ?_
  by_cases htop : 8 ≤ d + i
  · simp [hd i hi htop]
  · have hpos : d + (8 * j + i) = 8 * j + (d + i) := by omega
    simp only [BitVec.getLsbD_and, getLsbD_byteAt, BitVec.getLsbD_ushiftRight, hi, not_le.mp htop, hpos,
      decide_true, Bool.true_and]

end Mask

end Bytes

/-- R142: a masked shift of a byte is at most the byte, so step s1 borrows from no other byte. -/
theorem toNat_ushiftRight_and_le (b m : Byte) (d : Nat) : (b >>> d &&& m).toNat ≤ b.toNat := by
  rw [BitVec.toNat_and, BitVec.toNat_ushiftRight]
  exact Nat.and_le_left.trans (Nat.shiftRight_le _ _)

section Swar

variable {n j : Nat} (hn : n ≤ 8) (hj : j < n)
include hn hj

/-- R142: step s1 works on each byte alone. -/
theorem byteAt_swarPairs (x : BitVec (8 * n)) : byteAt (swarPairs x) j = swarPairs (byteAt x j) := by
  have hpairs (k : Nat) (hk : k < n) :=
    byteAt_ushiftRight_and_mask hk hn (m := 0x5555555555555555#64) (d := 1) (by decide) (by decide) x
  rw [swarPairs, byteAt_sub hj, hpairs j hj, swarPairs]
  intro k hk
  rw [hpairs k (hk.trans hj)]
  exact toNat_ushiftRight_and_le _ _ 1

/-- R142: step s2 works on each byte alone. -/
theorem byteAt_swarNibbles (x : BitVec (8 * n)) : byteAt (swarNibbles x) j = swarNibbles (byteAt x j) := by
  have hm : ∀ k < 8, byteAt 0x3333333333333333#64 k = (0x3333333333333333#64).setWidth 8 := by decide
  have hlow (k : Nat) (hk : k < n) := byteAt_and_mask hk hn hm x
  have hhigh (k : Nat) (hk : k < n) := byteAt_ushiftRight_and_mask hk hn hm (d := 2) (by decide) x
  rw [swarNibbles, byteAt_add hj, hlow j hj, hhigh j hj, swarNibbles]
  intro k hk
  have hmask (b : Byte) : (b &&& (0x3333333333333333#64).setWidth 8).toNat ≤ 0x33 := by
    rw [BitVec.toNat_and]; exact Nat.and_le_right
  rw [hlow k (hk.trans hj), hhigh k (hk.trans hj)]
  exact (Nat.add_le_add (hmask _) (hmask _)).trans_lt (by decide)

/-- R142: step s3 works on each byte alone, when no half of a byte counts more than four bits. -/
theorem byteAt_swarBytes {x : BitVec (8 * n)}
    (hx : ∀ k < n, (byteAt x k).toNat % 16 ≤ 4 ∧ (byteAt x k).toNat / 16 ≤ 4) :
    byteAt (swarBytes x) j = swarBytes (byteAt x j) := by
  have hcarry : ∀ k < j, (byteAt x k).toNat + (byteAt (x >>> 4) k).toNat < 256 := fun k hk => by
    have hbyte := hx k (by omega)
    have hnext := hx (k + 1) (by omega)
    rw [toNat_byteAt_ushiftRight_four]
    omega
  have hmask (b : Byte) : (b &&& (0x0F0F0F0F0F0F0F0F#64).setWidth 8).toNat = b.toNat % 16 := by
    rw [BitVec.toNat_and]; exact Nat.and_two_pow_sub_one_eq_mod b.toNat 4
  rw [swarBytes, byteAt_and_mask hj hn (by decide), byteAt_add hj hcarry, swarBytes]
  refine BitVec.eq_of_toNat_eq ?_
  rw [hmask, hmask, BitVec.toNat_add, BitVec.toNat_add, toNat_byteAt_ushiftRight_four, BitVec.toNat_ushiftRight,
    Nat.shiftRight_eq_div_pow]
  omega

end Swar

/-- R142: after step s2 each half of a byte counts its own four bits. -/
theorem swarNibbles_swarPairs_le (b : Byte) :
    (swarNibbles (swarPairs b)).toNat % 16 ≤ 4 ∧ (swarNibbles (swarPairs b)).toNat / 16 ≤ 4 :=
  forall_byte_of_rows (P := fun b =>
    (swarNibbles (swarPairs b)).toNat % 16 ≤ 4 ∧ (swarNibbles (swarPairs b)).toNat / 16 ≤ 4) (by decide) b

/-- R142: the three steps on one byte give its population count. -/
theorem toNat_swar_eq_pop (b : Byte) : (swarBytes (swarNibbles (swarPairs b))).toNat = pop b :=
  forall_byte_of_rows (P := fun b => (swarBytes (swarNibbles (swarPairs b))).toNat = pop b) (by decide) b

/-- R142: the SWAR reduction, at every width that is a number of bytes up to 64. -/
theorem popSwar_eq_pop {n : Nat} (hn : n ≤ 8) (x : BitVec (8 * n)) : popSwar x = pop x := by
  have hnibbles (k : Nat) (hk : k < n) :
      byteAt (swarNibbles (swarPairs x)) k = swarNibbles (swarPairs (byteAt x k)) := by
    rw [byteAt_swarNibbles hn hk, byteAt_swarPairs hn hk]
  refine sumBytes_eq_pop fun j hj => ?_
  rw [byteAt_swarBytes hn hj fun k hk => hnibbles k hk ▸ swarNibbles_swarPairs_le _, hnibbles j hj]
  exact toNat_swar_eq_pop _

end Sys2Proof.Machine
end

section
/-! PROOFS. The statements of spec/43_ones_count.md. -/

namespace Sys2Proof.Proofs

open Sys2Proof.Machine Sys2Proof.Safety

/-- Settles O21: the meaning of each form drives the reference count of its width. -/
theorem onesCountResult : Obligations.OnesCountResult := by
  refine ⟨rfl, rfl, rfl, rfl, rfl, rfl, fun s p hp => ?_⟩
  simp only [List.mem_cons, List.not_mem_nil, or_false] at hp
  obtain rfl | rfl | rfl | rfl | rfl := hp
  · exact driveCount_pop_operand (W := 8) (by decide) s
  · exact driveCount_pop_operand (W := 16) (by decide) s
  · exact driveCount_pop_operand (W := 32) (by decide) s
  · exact driveCount_pop_operand (W := 64) (by decide) s
  · exact driveCount_pop_operand s.nativeW.bits_le s

/-- Settles O36: the bits of the bytes are the bits of the operand. -/
theorem byteTablePopulationIsTheReference : Obligations.ByteTablePopulationIsTheReference :=
  fun _ x => ⟨popTable_eq_pop x, (popTable_eq_pop x).trans_le (pop_le x)⟩

/-- Settles O37: each width is a number of bytes up to eight. -/
theorem swarPopulationIsTheReference : Obligations.SwarPopulationIsTheReference :=
  ⟨popSwar_eq_pop (n := 1) (by decide), popSwar_eq_pop (n := 2) (by decide), popSwar_eq_pop (n := 4) (by decide),
    popSwar_eq_pop (n := 8) (by decide)⟩

/-- Settles O38: each pass takes one from the population count, and only 0 has none left. -/
theorem clearingLoopCountsTheOnes : Obligations.ClearingLoopCountsTheOnes :=
  fun _ x => ⟨fun hx i _ => getLsbD_clearLowest_of_ne_zero hx i, clearLowestTimes_eq_zero rfl,
    popLoop_eq_pop (pop_le x), onesBelow_eq_sum x _, pop_le x⟩

end Sys2Proof.Proofs
end

section
/-! SUPPORT. The rotations bit by bit, as an action of the integers modulo the width, and as an exchange of two fields
(spec/44_rotate.md R160 to R163). -/

namespace Sys2Proof

/-- R6: the native width is positive. -/
theorem NativeWidth.bits_pos (n : NativeWidth) : 0 < n.bits := by
  cases n <;> decide

end Sys2Proof

namespace Sys2Proof.Machine

/-- R160: the reduced amount is congruent to the amount. -/
theorem rotateAmount_modEq {w : Nat} (hw : 0 < w) (k : Int) : rotateAmount w k ≡ k [ZMOD w] := by
  have hnonneg : 0 ≤ k % (w : Int) := Int.emod_nonneg k (by omega)
  rw [rotateAmount, Int.toNat_of_nonneg hnonneg]
  exact Int.mod_modEq k w

/-- R160: congruent amounts have the same reduction. -/
theorem rotateAmount_congr {w : Nat} {j k : Int} (h : j ≡ k [ZMOD w]) : rotateAmount w j = rotateAmount w k :=
  congrArg Int.toNat h

/-- R160: the reduced amount is the one number in `[0, W)` that is congruent to the amount. -/
theorem rotateAmount_eq {w p : Nat} {k : Int} (hp : p < w) (h : p ≡ k [ZMOD w]) : rotateAmount w k = p := by
  rw [← rotateAmount_congr h, rotateAmount, ← Int.natCast_mod, Int.toNat_natCast, Nat.mod_eq_of_lt hp]

/-- R161: the left rotation is the library's, by the reduced amount. -/
theorem rol_eq_rotateLeft {w : Nat} (hw : 0 < w) (x : BitVec w) (k : Int) :
    rol x k = x.rotateLeft (rotateAmount w k) := by
  rw [rol, BitVec.rotateLeft_def, Nat.mod_eq_of_lt (rotateAmount_lt hw k)]
  split
  next hzero => rw [hzero, Nat.sub_zero, BitVec.shiftLeft_zero, BitVec.ushiftRight_eq_zero le_rfl, BitVec.or_zero]
  next => rfl

/-- R161: `ROL_W(x, k)[i] = x[(i - k) mod W]`: the bits below the amount wrap around from the top. -/
theorem getLsbD_rol {w i : Nat} (hi : i < w) (x : BitVec w) (k : Int) :
    (rol x k).getLsbD i = x.getLsbD (rotateAmount w (i - k)) := by
  have hw : 0 < w := Nat.zero_lt_of_lt hi
  have hs := rotateAmount_lt hw k
  have hmod : (i : Int) - rotateAmount w k ≡ i - k [ZMOD w] := Int.ModEq.rfl.sub (rotateAmount_modEq hw k)
  rw [rol_eq_rotateLeft hw, BitVec.getLsbD_rotateLeft_of_le hs]
  by_cases hwrap : i < rotateAmount w k
  · have hdvd : (w : Int) ∣ i - rotateAmount w k - (w - rotateAmount w k + i : Nat) := ⟨-1, by omega⟩
    have hpos : rotateAmount w (i - k) = w - rotateAmount w k + i :=
      rotateAmount_eq (by omega) ((Int.modEq_iff_dvd.mpr hdvd).trans hmod)
    rw [hpos, decide_eq_true hwrap, cond_true]
  · have hpos : rotateAmount w (i - k) = i - rotateAmount w k :=
      rotateAmount_eq (by omega) (by rwa [Nat.cast_sub (not_lt.mp hwrap)])
    rw [hpos, decide_eq_false hwrap, cond_false, decide_eq_true hi, Bool.true_and]

/-- R162: `ROR_W(x, k)[i] = x[(i + k) mod W]`. -/
theorem getLsbD_ror {w i : Nat} (hi : i < w) (x : BitVec w) (k : Int) :
    (ror x k).getLsbD i = x.getLsbD (rotateAmount w (i + k)) := by
  rw [ror, getLsbD_rol hi, sub_neg_eq_add]

/-- R161: successive left rotations add their amounts. -/
theorem rol_rol {w : Nat} (x : BitVec w) (j k : Int) : rol (rol x j) k = rol x (j + k) := by
  refine BitVec.eq_of_getLsbD_eq fun i hi => ?_
  have hw : 0 < w := Nat.zero_lt_of_lt hi
  have hpos : (rotateAmount w (i - k) : Int) - j ≡ i - (j + k) [ZMOD w] :=
    calc (rotateAmount w (i - k) : Int) - j ≡ i - k - j [ZMOD w] := (rotateAmount_modEq hw _).sub_right j
      _ = i - (j + k) := by ring
  rw [getLsbD_rol hi, getLsbD_rol (rotateAmount_lt hw _), getLsbD_rol hi, rotateAmount_congr hpos]

/-- R161: the rotation by 0 is the special case that shifts nothing. -/
@[simp] theorem rol_zero {w : Nat} (x : BitVec w) : rol x 0 = x :=
  if_pos (by simp [rotateAmount])

/-- R174: the left rotation by `W` is the one by 0. -/
@[simp] theorem rol_width {w : Nat} (x : BitVec w) : rol x (w : Int) = x :=
  (rol_congr x (Int.emod_self.trans (Int.zero_emod _).symm)).trans (rol_zero x)

/-- R174: the left rotation by the negated amount undoes a left rotation. -/
@[simp] theorem rol_rol_neg {w : Nat} (x : BitVec w) (k : Int) : rol (rol x k) (-k) = x := by
  rw [rol_rol, add_neg_cancel, rol_zero]

/-- R174: the right rotation undoes the left rotation by the same amount. -/
@[simp] theorem ror_rol {w : Nat} (x : BitVec w) (k : Int) : ror (rol x k) k = x := rol_rol_neg x k

/-- R162: the amount of a right rotation, taken as a left one, is `W - (k mod W)`. -/
theorem ror_eq_rol_sub_emod {w : Nat} (x : BitVec w) (k : Int) : ror x k = rol x ((w : Int) - k % (w : Int)) := by
  refine rol_congr x ?_
  calc -k ≡ -(k % w) [ZMOD w] := (Int.mod_modEq k w).neg.symm
    _ ≡ w - k % w [ZMOD w] := Int.modEq_iff_dvd.mpr ⟨1, by ring⟩

/-- The population count of a value is that of its low `p` bits and that of the others. -/
theorem pop_eq_add_pop_extractLsb' {w p : Nat} (hp : p ≤ w) (x : BitVec w) :
    pop x = pop (x.extractLsb' 0 p) + pop (x.extractLsb' p (w - p)) := by
  have hlow : onesBelow x p = pop (x.extractLsb' 0 p) := by simpa [onesBelow] using onesBelow_add x 0 p
  rw [← hlow, ← onesBelow_add, Nat.add_sub_cancel' hp, pop]

/-- R174: a rotation exchanges the high field and the low one, and keeps the bits of each. -/
theorem pop_rotateLeft {w r : Nat} (hr : r < w) (x : BitVec w) : pop (x.rotateLeft r) = pop x := by
  have hlow : (x.rotateLeft r).extractLsb' 0 r = x.extractLsb' (w - r) r :=
    BitVec.eq_of_getLsbD_eq fun i hi => by simp [BitVec.getLsbD_rotateLeft_of_le hr, hi]
  have hhigh : (x.rotateLeft r).extractLsb' r (w - r) = x.extractLsb' 0 (w - r) :=
    BitVec.eq_of_getLsbD_eq fun i hi => by
      have hin : r + i < w := by omega
      simp only [BitVec.getLsbD_extractLsb', BitVec.getLsbD_rotateLeft_of_le hr]
      simp [hin]
  have hsub : w - (w - r) = r := by omega
  rw [pop_eq_add_pop_extractLsb' hr.le, hlow, hhigh, pop_eq_add_pop_extractLsb' (Nat.sub_le w r) x, hsub, Nat.add_comm]

/-- R174: a rotation keeps the population count. -/
theorem pop_rol {w : Nat} (hw : 0 < w) (x : BitVec w) (k : Int) : pop (rol x k) = pop x := by
  rw [rol_eq_rotateLeft hw, pop_rotateLeft (rotateAmount_lt hw k)]

/-- R160: at a width that divides `2^64` the reduced amount is the unsigned port modulo the width. -/
theorem rotateAmount_toInt {w : Nat} (hw : w ∣ 2 ^ 64) (k : Word) : rotateAmount w k.toInt = k.toNat % w := by
  rw [rotateAmount_congr (toInt_modEq_toNat hw k), rotateAmount, ← Int.natCast_mod, Int.toNat_natCast]

/-- R163: modulo a divisor of `2^64` the port keeps an integer amount of any size. -/
theorem toInt_ofInt_modEq {w : Nat} (hw : w ∣ 2 ^ 64) (k : Int) : (BitVec.ofInt 64 k).toInt ≡ k [ZMOD w] := by
  have hfull : (BitVec.ofInt 64 k).toInt ≡ k [ZMOD (2 ^ 64 : Nat)] := by
    rw [BitVec.toInt_ofInt]
    exact Int.bmod_emod
  exact hfull.of_dvd (Int.natCast_dvd_natCast.mpr hw)

/-- R69, R84: a value of a width up to 64 is sampled with its own bits and zeros above, and nothing else changes. -/
theorem driveValue_hasBits {W : Nat} (hW : W ≤ 64) {v : BitVec W} {f : Nat → Bool}
    (hv : ∀ i, i < W → v.getLsbD i = f i) (s : State) :
    ∃ r, Safety.HasBits W f r ∧ driveValue v s = .next { s with sampled := some { res := r, ill := 0#1 } } := by
  refine ⟨widenValue v, ⟨fun i hi => ?_, fun i hi => ?_⟩, rfl⟩
  · rw [widenValue, getLsbD_zext64 v hW, hv i hi]
  · rw [widenValue, getLsbD_zext64 v hW, BitVec.getLsbD_of_ge v i hi]

/-- A bit of the operand at a reduced position is that bit of `a`. -/
theorem getLsbD_operand_rotateAmount {W : Nat} (hpos : 0 < W) (s : State) (j : Int) :
    (operand W s).getLsbD (rotateAmount W j) = s.a.getLsbD (rotateAmount W j) := by
  rw [getLsbD_operand, decide_eq_true (rotateAmount_lt hpos j), Bool.true_and]

section Operand

variable {W : Nat} (hpos : 0 < W) (hW : W ≤ 64) (s : State)
include hpos hW

/-- R161, R168: the outcome that the RotateLeft meanings of every width share. -/
theorem driveValue_rol_operand :
    ∃ r, Safety.HasBits W (fun i => s.a.getLsbD (((i : Int) - s.k.toInt % (W : Int)) % (W : Int)).toNat) r ∧
      driveValue (rol (operand W s) (amount s)) s = .next { s with sampled := some { res := r, ill := 0#1 } } := by
  refine driveValue_hasBits hW (fun i hi => ?_) s
  have hmod : (i : Int) - amount s ≡ i - amount s % W [ZMOD W] := Int.ModEq.rfl.sub (Int.mod_modEq _ _).symm
  rw [getLsbD_rol hi, rotateAmount_congr hmod]
  exact getLsbD_operand_rotateAmount hpos s _

/-- R162, R173: the outcome that the RotateRight meanings of every width share. -/
theorem driveValue_ror_operand :
    ∃ r, Safety.HasBits W (fun i => s.a.getLsbD (((i : Int) + s.k.toInt % (W : Int)) % (W : Int)).toNat) r ∧
      driveValue (ror (operand W s) (amount s)) s = .next { s with sampled := some { res := r, ill := 0#1 } } := by
  refine driveValue_hasBits hW (fun i hi => ?_) s
  have hmod : (i : Int) + amount s ≡ i + amount s % W [ZMOD W] := Int.ModEq.rfl.add (Int.mod_modEq _ _).symm
  rw [getLsbD_ror hi, rotateAmount_congr hmod]
  exact getLsbD_operand_rotateAmount hpos s _

end Operand

end Sys2Proof.Machine
end

section
/-! PROOFS. The statements of spec/44_rotate.md. -/

namespace Sys2Proof.Proofs

open Sys2Proof.Machine Sys2Proof.Safety

/-- Settles O22: the meaning of each form drives the left rotation of its width. -/
theorem rotateLeftResult : Obligations.RotateLeftResult := by
  refine ⟨rfl, rfl, rfl, rfl, rfl, rfl, fun s p hp => ?_⟩
  simp only [List.mem_cons, List.not_mem_nil, or_false] at hp
  obtain rfl | rfl | rfl | rfl | rfl := hp
  · exact driveValue_rol_operand (W := 8) (by decide) (by decide) s
  · exact driveValue_rol_operand (W := 16) (by decide) (by decide) s
  · exact driveValue_rol_operand (W := 32) (by decide) (by decide) s
  · exact driveValue_rol_operand (W := 64) (by decide) (by decide) s
  · exact driveValue_rol_operand s.nativeW.bits_pos s.nativeW.bits_le s

/-- Settles O23: the meaning of each form drives the right rotation of its width. -/
theorem rotateRightResult : Obligations.RotateRightResult := by
  refine ⟨rfl, rfl, rfl, rfl, rfl, rfl, fun s p hp => ?_⟩
  simp only [List.mem_cons, List.not_mem_nil, or_false] at hp
  obtain rfl | rfl | rfl | rfl | rfl := hp
  · exact driveValue_ror_operand (W := 8) (by decide) (by decide) s
  · exact driveValue_ror_operand (W := 16) (by decide) (by decide) s
  · exact driveValue_ror_operand (W := 32) (by decide) (by decide) s
  · exact driveValue_ror_operand (W := 64) (by decide) (by decide) s
  · exact driveValue_ror_operand s.nativeW.bits_pos s.nativeW.bits_le s

/-- Settles O43: amounts add and count modulo the width, and a rotation exchanges two fields. -/
theorem rotationLaws : Obligations.RotationLaws :=
  fun _ x k hw => ⟨rol_rol_neg x k, rol_width x, rol_zero x, ror_rol x k, ror_eq_rol_sub_emod x k, pop_rol hw x k⟩

/-- Settles O44: each width `2^m` divides `2^64`, so the port keeps the amount modulo the width. -/
theorem rotationAmountOfAnyMagnitude : Obligations.RotationAmountOfAnyMagnitude := by
  intro m hm
  have hdvd : 2 ^ m ∣ 2 ^ 64 := Nat.pow_dvd_pow 2 (by omega)
  exact ⟨rotateAmount_toInt hdvd, rotateAmount_lt (Nat.two_pow_pos m), fun x k =>
    ⟨rol_congr x (toInt_ofInt_modEq hdvd k), ror_congr x (toInt_ofInt_modEq hdvd k)⟩⟩

end Sys2Proof.Proofs
end

section
/-! SUPPORT. The bit reversal bit by bit: the library's reversal, its laws, and its composition from the ROM and the
byte reverser (spec/45_reverse.md R190, R191 and R197). -/

namespace Sys2Proof.Machine

/-- R190: the reference reversal is the library's. -/
theorem rev_eq_reverse {w : Nat} (x : BitVec w) : rev x = x.reverse :=
  BitVec.eq_of_getLsbD_eq fun i _ => by rw [getLsbD_rev, BitVec.getLsbD_reverse, BitVec.getMsbD]

/-- R197: the reversal is an involution. -/
@[simp] theorem rev_rev {w : Nat} (x : BitVec w) : rev (rev x) = x := by
  rw [rev_eq_reverse, rev_eq_reverse, BitVec.reverse_reverse_eq]

/-- R197: a single bit goes to the mirrored position. -/
theorem rev_two_pow {w p : Nat} (hp : p < w) : rev (BitVec.ofNat w (2 ^ p)) = BitVec.ofNat w (2 ^ (w - 1 - p)) := by
  refine BitVec.eq_of_getLsbD_eq fun i hi => ?_
  have hback : w - 1 - i < w := by omega
  have hpos : p = w - 1 - i ↔ w - 1 - p = i := by omega
  simp only [getLsbD_rev, BitVec.getLsbD_ofNat, Nat.testBit_two_pow, hi, hback, hpos, decide_true, Bool.true_and]

/-- R197: the reversal lists the same bits from the other end, so it keeps their number. -/
theorem pop_rev {w : Nat} (x : BitVec w) : pop (rev x) = pop x := by
  have hmirror : (List.range w).map (fun i => w - 1 - i) = (List.range w).reverse := by
    simp [List.range_eq_range', List.reverse_range']
  calc pop (rev x) = (List.range w).countP fun i => (rev x).getLsbD i := onesBelow_eq_countP _ w
    _ = (List.range w).countP fun i => x.getLsbD (w - 1 - i) :=
      List.countP_congr fun i hi => by rw [getLsbD_rev, decide_eq_true (List.mem_range.mp hi), Bool.true_and]
    _ = ((List.range w).map fun i => w - 1 - i).countP fun i => x.getLsbD i := List.countP_map.symm
    _ = (List.range w).countP fun i => x.getLsbD i := by rw [hmirror, List.countP_reverse]
    _ = pop x := (onesBelow_eq_countP x w).symm

/-- R197: the leading zeros of the reversal are the trailing zeros of the operand. -/
theorem lz_rev {w : Nat} (x : BitVec w) : lz (rev x) = tz x := by
  rw [← tz_rev, rev_rev]

/-- R211: on a single byte a reversal of the byte order would change nothing. -/
theorem revb_byte {w : Nat} (hw : w = 8) (x : BitVec w) : revb x = x := by
  refine BitVec.eq_of_getLsbD_eq fun i hi => ?_
  have hpos : 8 * (w / 8 - 1 - i / 8) + i % 8 = i := by omega
  rw [getLsbD_revb, hpos, decide_eq_true hi, Bool.true_and]

section Bytes

variable {n : Nat} (x : BitVec (8 * n))

/-- R210: byte `j` of the byte reversal is byte `n - 1 - j` of the operand. -/
theorem byteAt_revb {j : Nat} (hj : j < n) : byteAt (revb x) j = byteAt x (n - 1 - j) := by
  refine BitVec.eq_of_getLsbD_eq fun i hi => ?_
  have hin : 8 * j + i < 8 * n := by omega
  have hpos : 8 * (8 * n / 8 - 1 - (8 * j + i) / 8) + (8 * j + i) % 8 = 8 * (n - 1 - j) + i := by omega
  rw [getLsbD_byteAt, getLsbD_byteAt, getLsbD_revb, hpos, decide_eq_true hin, Bool.true_and]

/-- R191: a step that works on each byte alone commutes with the reversal of the byte order. -/
theorem revb_mapBytes (f : Byte → Byte) : revb (mapBytes f x) = mapBytes f (revb x) := by
  refine BitVec.eq_of_getLsbD_eq fun i hi => ?_
  have hin : 8 * (8 * n / 8 - 1 - i / 8) + i % 8 < 8 * n := by omega
  have hbyte : (8 * (8 * n / 8 - 1 - i / 8) + i % 8) / 8 = n - 1 - i / 8 := by omega
  have hbit : (8 * (8 * n / 8 - 1 - i / 8) + i % 8) % 8 = i % 8 := by omega
  rw [getLsbD_revb, getLsbD_mapBytes, getLsbD_mapBytes, byteAt_revb x (by omega), hbyte, hbit, decide_eq_true hin,
    Bool.true_and]

/-- R191: with the byte order reversed, the ROM's reversal of each byte puts every bit in its mirrored place. -/
theorem mapBytes_lutRev8_revb : mapBytes lutRev8 (revb x) = rev x := by
  refine BitVec.eq_of_getLsbD_eq fun i hi => ?_
  have hbit : i % 8 < 8 := by omega
  have hback : 8 - 1 - i % 8 < 8 := by omega
  have hpos : 8 * (n - 1 - i / 8) + (8 - 1 - i % 8) = 8 * n - 1 - i := by omega
  rw [getLsbD_mapBytes, lutRev8_eq_rev, byteAt_revb x (by omega), getLsbD_rev, getLsbD_byteAt, hpos,
    decide_eq_true hbit, decide_eq_true hback, Bool.true_and, Bool.true_and, getLsbD_rev]

/-- R191: the byte order reversed before the table step. The special case of width 8 leaves out a step that changes
nothing. -/
theorem revSwapThenTable_eq_rev : revSwapThenTable x = rev x := by
  rw [revSwapThenTable]
  split
  next hw => rw [← mapBytes_lutRev8_revb, revb_byte hw]
  next => exact mapBytes_lutRev8_revb x

/-- R191: the two orders of the steps agree. -/
theorem revTableThenSwap_eq_revSwapThenTable : revTableThenSwap x = revSwapThenTable x := by
  rw [revTableThenSwap, revSwapThenTable, revb_mapBytes]

end Bytes

/-- R190, R196: the outcome that the Reverse meanings of every width share. -/
theorem driveValue_rev_operand {W : Nat} (hW : W ≤ 64) (s : State) :
    ∃ r, Safety.HasBits W (fun i => s.a.getLsbD (W - 1 - i)) r ∧
      driveValue (rev (operand W s)) s = .next { s with sampled := some { res := r, ill := 0#1 } } := by
  refine driveValue_hasBits hW (fun i hi => ?_) s
  have hback : W - 1 - i < W := by omega
  rw [getLsbD_rev, getLsbD_operand, decide_eq_true hi, decide_eq_true hback, Bool.true_and, Bool.true_and]

end Sys2Proof.Machine
end

section
/-! PROOFS. The statements of spec/45_reverse.md. -/

namespace Sys2Proof.Proofs

open Sys2Proof.Machine Sys2Proof.Safety

/-- Settles O24: the meaning of each form drives the reference reversal of its width. -/
theorem reverseResult : Obligations.ReverseResult := by
  refine ⟨rfl, rfl, rfl, rfl, rfl, rfl, fun s p hp => ?_⟩
  simp only [List.mem_cons, List.not_mem_nil, or_false] at hp
  obtain rfl | rfl | rfl | rfl | rfl := hp
  · exact driveValue_rev_operand (W := 8) (by decide) s
  · exact driveValue_rev_operand (W := 16) (by decide) s
  · exact driveValue_rev_operand (W := 32) (by decide) s
  · exact driveValue_rev_operand (W := 64) (by decide) s
  · exact driveValue_rev_operand s.nativeW.bits_le s

/-- Settles O39: the two steps commute, and together they mirror every position. -/
theorem reversalComposesFromBytes : Obligations.ReversalComposesFromBytes :=
  fun _ x =>
    ⟨(revTableThenSwap_eq_revSwapThenTable x).trans (revSwapThenTable_eq_rev x), revSwapThenTable_eq_rev x⟩

/-- Settles O45: mirroring the positions twice gives each one back, and it turns a count from one end into the count
from the other. -/
theorem reversalLaws : Obligations.ReversalLaws :=
  fun w x => ⟨rev_rev x, rev_zero w, fun _ hp => rev_two_pow hp, pop_rev x, lz_rev x⟩

end Sys2Proof.Proofs
end

section
/-! SUPPORT. The byte reversal byte by byte: its involution, its mask-and-shift networks, and its value on the result
port (spec/46_reverse_bytes.md R210 to R217). -/

namespace Sys2Proof

/-- R6: the native width is a number of bytes. -/
theorem NativeWidth.eight_dvd_bits (n : NativeWidth) : 8 ∣ n.bits := by
  cases n <;> decide

end Sys2Proof

namespace Sys2Proof.Machine

/-- R10: a value of `n` bytes is determined by them. -/
theorem eq_of_byteAt_eq {n : Nat} {x y : BitVec (8 * n)} (h : ∀ j < n, byteAt x j = byteAt y j) : x = y := by
  refine BitVec.eq_of_getLsbD_eq fun i hi => ?_
  have hbit : i % 8 < 8 := by omega
  have hbyte := congrArg (·.getLsbD (i % 8)) (h (i / 8) (by omega))
  simpa only [getLsbD_byteAt, Nat.div_add_mod, decide_eq_true hbit, Bool.true_and] using hbyte

/-- R10: the narrowing and widening adapters keep each byte that the new width holds in full. -/
theorem byteAt_setWidth {v w j : Nat} (hj : 8 * j + 8 ≤ v) (x : BitVec w) : byteAt (x.setWidth v) j = byteAt x j := by
  rw [byteAt, BitVec.extractLsb'_setWidth_of_le hj, byteAt]

/-- R217: the byte reversal is an involution. -/
@[simp] theorem revb_revb {n : Nat} (x : BitVec (8 * n)) : revb (revb x) = x := by
  refine eq_of_byteAt_eq fun j hj => ?_
  have hback : n - 1 - (n - 1 - j) = j := by omega
  rw [byteAt_revb _ hj, byteAt_revb _ (by omega), hback]

/-- R210, R216: the outcome that the ReverseBytes meanings of every width share. -/
theorem driveValue_revb_operand {W : Nat} (hbytes : 8 ∣ W) (hW : W ≤ 64) (s : State) :
    ∃ v : Word, (∀ j, j < W / 8 → v.extractLsb' (8 * j) 8 = s.a.extractLsb' (8 * (W / 8 - 1 - j)) 8) ∧
      (∀ i, W ≤ i → v.getLsbD i = false) ∧
      driveValue (revb (operand W s)) s = .next { s with sampled := some { res := v, ill := 0#1 } } := by
  obtain ⟨n, rfl⟩ := hbytes
  refine ⟨widenValue (revb (operand (8 * n) s)), fun j hj => ?_, fun i hi => ?_, rfl⟩
  · rw [Nat.mul_div_cancel_left n (by decide)] at hj ⊢
    calc byteAt (widenValue (revb (operand (8 * n) s))) j
      _ = byteAt (revb (operand (8 * n) s)) j := byteAt_setWidth (by omega) _
      _ = byteAt (operand (8 * n) s) (n - 1 - j) := byteAt_revb _ hj
      _ = byteAt s.a (n - 1 - j) := byteAt_setWidth (by omega) _
  · rw [widenValue, getLsbD_zext64 _ hW, BitVec.getLsbD_of_ge _ i hi]

/-- R212: the position that a network's stage brings to position `i`: the stage exchanges neighbouring fields of `m`
bits. -/
def exchangedPosition (m i : Nat) : Nat := if i / m % 2 = 0 then i + m else i - m

/-- R212: in a value made of pairs of such fields, a stage moves a position within its pair. -/
theorem exchangedPosition_lt {w m i : Nat} (hm : 0 < m) (hw : 2 * m ∣ w) (hi : i < w) :
    exchangedPosition m i < w := by
  obtain ⟨k, rfl⟩ := hw
  rw [exchangedPosition]
  split
  next hlow =>
    rw [Nat.mul_right_comm, ← Nat.div_lt_iff_lt_mul hm] at hi ⊢
    rw [Nat.add_div_right i hm]
    omega
  next => omega

/-- R212: a stage whose mask selects every second field of `m` bits exchanges neighbouring fields. -/
theorem getLsbD_masked_exchange {w m i : Nat} (hm : 0 < m) {mask : BitVec w}
    (hmask : ∀ i < w, mask.getLsbD i = decide (i / m % 2 = 0)) (x : BitVec w) (hi : i < w) :
    (((x >>> m) &&& mask) ||| ((x &&& mask) <<< m)).getLsbD i = x.getLsbD (exchangedPosition m i) := by
  have hbelow (hmi : m ≤ i) : mask.getLsbD (i - m) = decide (i / m % 2 ≠ 0) := by
    have hfield := Nat.div_eq_sub_div hm hmi
    rw [hmask _ (by omega), decide_eq_decide]
    omega
  rw [exchangedPosition, BitVec.getLsbD_or, BitVec.getLsbD_and, BitVec.getLsbD_ushiftRight, hmask i hi,
    BitVec.getLsbD_shiftLeft, BitVec.getLsbD_and]
  split
  next hlow =>
    by_cases hmi : m ≤ i
    · simp [hlow, hbelow hmi, Nat.add_comm]
    · simp [hlow, not_le.mp hmi, Nat.add_comm]
  next hhigh =>
    have hmi : m ≤ i := not_lt.mp fun hlt => hhigh (by rw [Nat.div_eq_of_lt hlt])
    simp [hhigh, hbelow hmi, hi, hmi]

/-- R212: the last stage needs no mask, as it exchanges the two halves of the value. -/
theorem getLsbD_exchange_halves {m i : Nat} (x : BitVec (2 * m)) (hi : i < 2 * m) :
    ((x >>> m) ||| (x <<< m)).getLsbD i = x.getLsbD (exchangedPosition m i) := by
  rw [exchangedPosition, BitVec.getLsbD_or, BitVec.getLsbD_ushiftRight, BitVec.getLsbD_shiftLeft]
  by_cases hmi : i < m
  · simp [Nat.div_eq_of_lt hmi, hmi, Nat.add_comm]
  · have hfield : i / m = 1 := Nat.div_eq_of_lt_le (by omega) (by omega)
    have habove : x.getLsbD (m + i) = false := BitVec.getLsbD_of_ge x _ (by omega)
    simp [hfield, habove, hi, hmi]

/-- R212: at 16 bits the network exchanges the two bytes. -/
theorem revbNet16_eq_revb (x : BitVec 16) : revbNet16 x = revb x := by
  refine BitVec.eq_of_getLsbD_eq fun i hi => ?_
  have hpos : exchangedPosition 8 i = 8 * (16 / 8 - 1 - i / 8) + i % 8 := by
    simp only [exchangedPosition]; split_ifs <;> omega
  rw [revbNet16, getLsbD_exchange_halves (m := 8) x hi, hpos, getLsbD_revb, decide_eq_true hi, Bool.true_and]

/-- R212: at 32 bits the network exchanges the bytes of each half, then the halves. -/
theorem revbNet32_eq_revb (x : BitVec 32) : revbNet32 x = revb x := by
  refine BitVec.eq_of_getLsbD_eq fun i hi => ?_
  have hpos : exchangedPosition 8 (exchangedPosition 16 i) = 8 * (32 / 8 - 1 - i / 8) + i % 8 := by
    simp only [exchangedPosition]; split_ifs <;> omega
  rw [revbNet32, getLsbD_exchange_halves (m := 16) _ hi,
    getLsbD_masked_exchange (by decide) (by decide) x (exchangedPosition_lt (by decide) (by decide) hi), hpos,
    getLsbD_revb, decide_eq_true hi, Bool.true_and]

/-- R212: at 64 bits the network exchanges the bytes of each quarter, the quarters of each half, then the halves. -/
theorem revbNet64_eq_revb (x : BitVec 64) : revbNet64 x = revb x := by
  refine BitVec.eq_of_getLsbD_eq fun i hi => ?_
  have hpos : exchangedPosition 8 (exchangedPosition 16 (exchangedPosition 32 i)) =
      8 * (64 / 8 - 1 - i / 8) + i % 8 := by
    simp only [exchangedPosition]; split_ifs <;> omega
  have hhalf : exchangedPosition 32 i < 64 := exchangedPosition_lt (by decide) (by decide) hi
  rw [revbNet64, getLsbD_exchange_halves (m := 32) _ hi, getLsbD_masked_exchange (by decide) (by decide) _ hhalf,
    getLsbD_masked_exchange (by decide) (by decide) x (exchangedPosition_lt (by decide) (by decide) hhalf), hpos,
    getLsbD_revb, decide_eq_true hi, Bool.true_and]

end Sys2Proof.Machine
end

section
/-! PROOFS. The statements of spec/46_reverse_bytes.md. -/

namespace Sys2Proof.Proofs

open Sys2Proof.Machine Sys2Proof.Safety

/-- Settles O25: the meaning of each form drives the reference byte reversal of its width. -/
theorem reverseBytesResult : Obligations.ReverseBytesResult := by
  refine ⟨rfl, rfl, rfl, rfl, rfl, rfl, fun s p hp => ?_⟩
  simp only [List.mem_cons, List.not_mem_nil, or_false] at hp
  obtain rfl | rfl | rfl | rfl := hp
  · exact driveValue_revb_operand (W := 16) (by decide) (by decide) s
  · exact driveValue_revb_operand (W := 32) (by decide) (by decide) s
  · exact driveValue_revb_operand (W := 64) (by decide) (by decide) s
  · exact driveValue_revb_operand s.nativeW.eight_dvd_bits s.nativeW.bits_le s

/-- Settles O40: the stages of each network together exchange every byte with its mirror image. -/
theorem byteReverserNetworksAreTheReference : Obligations.ByteReverserNetworksAreTheReference :=
  ⟨revbNet16_eq_revb, revbNet32_eq_revb, revbNet64_eq_revb⟩

/-- Settles O46: mirroring the byte order twice gives each byte back, and the example tells the two reversals apart. -/
theorem byteReversalLaws : Obligations.ByteReversalLaws :=
  ⟨fun _ x => revb_revb x, by decide⟩

end Sys2Proof.Proofs
end

section
/-! SUPPORT. The bit length by value and by position (spec/47_len.md R230). -/

namespace Sys2Proof.Machine

/-- R230: 0 needs no bits. -/
@[simp] theorem len_zero (w : Nat) : len 0#w = 0 := if_pos rfl

/-- R230: the bit length is 1 more than the position of the highest set bit. -/
theorem len_eq_of_highest {w m : Nat} {x : BitVec w} (hset : x.getLsbD m = true)
    (habove : ∀ i, m < i → i < w → x.getLsbD i = false) : len x = m + 1 := by
  have hm := BitVec.lt_of_getLsbD hset
  rw [len_eq_sub_lz, lz_eq_of_highest hset habove]
  omega

/-- R230: the bit length is the least number of bits that can represent the value. -/
theorem len_le_iff {w d : Nat} {x : BitVec w} : len x ≤ d ↔ x.toNat < 2 ^ d := by
  by_cases hx : x = 0#w
  · simp [hx]
  · obtain ⟨-, hset, habove⟩ := msbIndex_spec hx
    rw [len, if_neg hx]
    constructor
    · exact fun hle => Nat.lt_pow_two_of_testBit _ fun i hi => habove i (hle.trans hi)
    · exact fun hlt => (Nat.pow_lt_pow_iff_right Nat.one_lt_two).mp ((Nat.ge_two_pow_of_testBit hset).trans_lt hlt)

/-- R230: the reference length of `a[W-1:0]` is what both forms of the definition say of `a`. -/
theorem isBitLength_len (W : Nat) (a : Word) : Safety.IsBitLength W a (len (a.setWidth W)) := by
  have hbit (i : Nat) (hi : i < W) : (a.setWidth W).getLsbD i = a.getLsbD i := by simp [hi]
  have hleast (d : Nat) : len (a.setWidth W) ≤ d ↔ a.toNat % 2 ^ W < 2 ^ d := by
    rw [len_le_iff, BitVec.toNat_setWidth]
  refine ⟨len_le _, (hleast _).mp le_rfl, fun d => (hleast d).mpr, fun hzero => ?_, fun m hm hm1 habove => ?_⟩
  · exact Nat.le_zero.mp ((hleast 0).mpr (by rw [hzero]; exact Nat.two_pow_pos 0))
  · exact len_eq_of_highest ((hbit m hm).trans hm1) fun i hi hw => (hbit i hw).trans (habove i hi hw)

/-- R230, R237: the outcome that the Len meanings of every width share. -/
theorem driveCount_len_operand {W : Nat} (hW : W ≤ 64) (s : State) :
    ∃ c, Safety.IsBitLength W s.a c ∧
      driveCount (len (operand W s)) s = .next { s with sampled := some { res := BitVec.ofNat 64 c, ill := 0#1 } } :=
  ⟨len (operand W s), isBitLength_len W s.a, driveCount_eq_ofNat ((len_le _).trans hW) s⟩

end Sys2Proof.Machine
end

section
/-! PROOFS. The statement of spec/47_len.md. -/

namespace Sys2Proof.Proofs

open Sys2Proof.Machine Sys2Proof.Safety

/-- Settles O26: the meaning of each form drives the reference length of its width. -/
theorem lenResult : Obligations.LenResult := by
  refine ⟨rfl, rfl, rfl, rfl, rfl, rfl, fun s p hp => ?_⟩
  simp only [List.mem_cons, List.not_mem_nil, or_false] at hp
  obtain rfl | rfl | rfl | rfl | rfl := hp
  · exact driveCount_len_operand (W := 8) (by decide) s
  · exact driveCount_len_operand (W := 16) (by decide) s
  · exact driveCount_len_operand (W := 32) (by decide) s
  · exact driveCount_len_operand (W := 64) (by decide) s
  · exact driveCount_len_operand s.nativeW.bits_le s

end Sys2Proof.Proofs
end

section
/-! SUPPORT. An evaluation of a legal select from any state (spec/60_exceptions.md R250, R255), the sequences it stands in
(R251), and the state at power-up (spec/70_reset_and_hazards.md R272, R273). -/

namespace Sys2Proof.Machine

/-- R23, R250: the output `ill` is 0 for a legal select. -/
theorem illOf_of_legal {ctl : Select} (h : isIllegal ctl = false) : illOf ctl = 0#1 := by
  simp [illOf, h]

/-- R80, R250: a step on a legal select completes, and the client samples what the BCU drives. -/
theorem step_of_legal {s : State} (h : isIllegal s.ctl = false) : step s = .next (s.sample s.driven) := by
  obtain ⟨i, hdec⟩ := exists_decode_eq_ok h
  exact step_eq_sample_driven hdec

/-- R255: from whatever state, the evaluation of a legal select gives the client the outputs for its own inputs. -/
theorem evaluate_of_legal {p : Inputs} (h : isIllegal p.ctl = false) (s : State) :
    evaluate p s = .next ((s.present p).sample (outputs p)) :=
  step_of_legal (s := s.present p) h

/-- R275: an evaluation that completes leaves its inputs on the ports with their outputs sampled, and does nothing else. -/
theorem eq_sample_outputs_of_evaluate {p : Inputs} {s t : State} (h : evaluate p s = .next t) :
    t = (s.present p).sample (outputs p) :=
  eq_sample_driven_of_step (s := s.present p) h

/-- R20, R80: after a legal select the client goes on from the ports as that evaluation left them. -/
theorem session_of_legal {p : Inputs} (h : isIllegal p.ctl = false) (ps : List Inputs) (s : State) :
    session (p :: ps) s =
      { ports := (session ps ((s.present p).sample (outputs p))).ports
        answers := .sampled (outputs p) :: (session ps ((s.present p).sample (outputs p))).answers } := by
  obtain ⟨i, hdec⟩ := exists_decode_eq_ok h
  simp only [session, serveOne_of_decode_eq_ok hdec]

/-- R51, R251: after a safe sequence the client goes on from the ports as the sequence left them, with its answers kept. -/
theorem session_append {ps : List Inputs} (hsafe : Safety.SafeRun ps) (qs : List Inputs) (s : State) :
    session (ps ++ qs) s =
      { ports := (session qs (session ps s).ports).ports
        answers := (session ps s).answers ++ (session qs (session ps s).ports).answers } := by
  induction ps generalizing s with
  | nil => rfl
  | cons p ps ih =>
    obtain ⟨hp, hps⟩ := List.forall_mem_cons.mp hsafe
    rw [List.cons_append, session_of_legal hp, session_of_legal hp, ih hps, List.cons_append]

/-- R251: an illegal select ends its client's run with its inputs on the ports. -/
theorem session_of_isIllegal {q : Inputs} (h : isIllegal q.ctl = true) (qs : List Inputs) (s : State) :
    session (q :: qs) s = { ports := s.present q, answers := [.ended (.fault (.illegalSelect q.ctl))] } := by
  obtain ⟨e, hrej⟩ := (exists_decode_eq_error_iff q.ctl).mpr h
  exact session_of_rejected hrej qs s

/-- R24: `NATIVE_W` fits the seven bits of `uint_size`. -/
theorem toNat_uintSize (s : State) : s.uintSize.toNat = s.nativeW.bits := by
  rw [State.uintSize_of_nativeW rfl]
  cases s.nativeW <;> rfl

/-- R272, R273: a BCU at power-up shows its built width, and has no sample that could be out of date. -/
theorem bcuInv_powerUp (n : NativeWidth) : Safety.BcuInv n (State.powerUp n) :=
  ⟨State.powerUp_nativeW n, toNat_uintSize (State.powerUp n), fun _ h => nomatch h⟩

end Sys2Proof.Machine
end

section
/-! PROOFS. The statements of spec/60_exceptions.md and spec/70_reset_and_hazards.md, and the round trip from an
instruction through its encoding (spec/30_encoding.md). -/

namespace Sys2Proof.Proofs

open Sys2Proof.Machine Sys2Proof.Safety

/-- Settles O3: an encoding decodes to the expansion of its instruction, and a select expands to itself. -/
theorem decodeOfEncodeIsTheInstruction : Obligations.DecodeOfEncodeIsTheInstruction := by
  intro n i hwf
  rw [decode_encode, resolve_of_wf hwf]

/-- Settles O7: a legal select samples what the BCU drives, whose `ill` is 0. -/
theorem stepFaultsExactlyOnIllegalSelects : Obligations.StepFaultsExactlyOnIllegalSelects :=
  fun _ => ⟨fun h => ⟨_, _, step_of_legal h, rfl, illOf_of_legal h⟩, step_of_isIllegal⟩

/-- Settles O10: the evaluation of a legal select does not read what was on the ports before. -/
theorem legalSelectAfterIllegalIsNormal : Obligations.LegalSelectAfterIllegalIsNormal := by
  intro s p hs hp
  refine ⟨step_of_isIllegal hs, ?_⟩
  rw [evaluate_of_legal hp, ← illOf_of_legal hp]
  rfl

/-- Settles O49: the answers of the safe part stay, and the illegal select ends the run from the ports it left. -/
theorem sessionEndsAtTheFirstIllegalSelect : Obligations.SessionEndsAtTheFirstIllegalSelect := by
  intro ps qs q s hsafe hill
  rw [session_append hsafe, session_of_isIllegal hill, resultsDependOnNoEarlierEvaluation ps s hsafe]
  exact ⟨rfl, rfl, (illOf_eq_one_iff q.ctl).mpr hill, rfl⟩

/-- Settles O12: the reset state is the power-up state of the built width. -/
theorem powerUpMeetsTheBcuInvariant : Obligations.PowerUpMeetsTheBcuInvariant :=
  ⟨fun n => ⟨bcuInv_powerUp n, State.powerUp_sampled n⟩, bcuInv_powerUp Config.nativeW,
    State.powerUp_sampled Config.nativeW⟩

/-- Settles O52: each drive of the ports clears the sample, and an evaluation that completes samples its own outputs. -/
theorem changedInputsHaveNoResult : Obligations.ChangedInputsHaveNoResult := by
  refine ⟨fun s p => State.present_sampled p s, State.withFetchWord_sampled, fun s t p h => ?_⟩
  obtain rfl := eq_sample_outputs_of_evaluate h
  exact ⟨rfl, rfl⟩

end Sys2Proof.Proofs
end
